-- ==== Sys2Proof/Word.lean ====
section
/-! DEFINITION. The word types of the block (spec/00_scope.md R6, R9): a byte of the byte-wide bus, the 16-bit
logical address and cursor, the 32-bit checksum register, and the level of one physical line. -/

namespace Sys2Proof

/-- A byte is 8 bits (R9); the data bus is `DATA_W` = 8 lines wide (R6). -/
abbrev Byte := BitVec 8

/-- A logical target address: `ADDR_IN_W` = `CURSOR_W` = 16 bits (R6). -/
abbrev Addr := BitVec 16

/-- The checksum engine's register: `CRC_W` = 32 bits (R6). -/
abbrev Crc := BitVec 32

/-- The level of one physical line: `true` is high (1), `false` is low (0) (spec/10_state.md R23). -/
abbrev Level := Bool

/-- A line level of 1. On the active-low lines `nOE` and `nWE` it is the inactive level (R25). -/
abbrev Level.high : Level := true

/-- A line level of 0. On the active-low lines `nOE` and `nWE` it is the active level (R25). -/
abbrev Level.low : Level := false

end Sys2Proof
end

