-- ==== Sys2Proof/Machine/Signals.lean ====
section
/-! DEFINITION. The names of the block's lines, modes, delays and events (spec/10_state.md R17, R23 to R27;
spec/00_scope.md R10, R12; spec/60_exceptions.md R212). -/

namespace Sys2Proof.Machine

/-- The address bus driver's mode flag (R17). -/
inductive Mode where
  /-- `MASK`: mask ROM. -/
  | mask
  /-- `EEPROM`. -/
  | eeprom
  deriving DecidableEq, Repr

/-- The physical address lines (R23), one name each. -/
inductive Line where
  /-- `PA[k]`. -/
  | pa (k : Fin 8)
  /-- `UL[k]`. -/
  | ul (k : Fin 6)
  /-- `HA`, the mask-ROM alternate high address bit. -/
  | ha
  /-- `VSEL`, the mask-ROM voltage-select line. -/
  | vsel
  /-- `EX`, the third line, which carries bit 14 in EEPROM mode. -/
  | ex
  deriving DecidableEq, Repr

/-- The levels of the address lines (R23). -/
structure Lines where
  /-- `PA[7:0]`, the low-byte port. -/
  pa   : BitVec 8
  /-- `UL[0..5]`. -/
  ul   : Vector Level 6
  ha   : Level
  vsel : Level
  ex   : Level
  deriving DecidableEq, Repr

/-- `DDIR`, the data-direction setting (R24). -/
inductive Direction where
  /-- `IN`. -/
  | input
  /-- `OUT`. -/
  | output
  deriving DecidableEq, Repr

/-- The whole physical line state, which the `TARGET` oracle sees (spec/00_scope.md R11). -/
structure PhysicalLines where
  lines : Lines
  ddir  : Direction
  /-- The byte the block drives onto the data lines, none while it drives none (R24). -/
  data  : Option Byte
  nOE   : Level
  nWE   : Level
  deriving DecidableEq, Repr

/-- `IND`, the status indicator's mode as the block sets it (R27). -/
inductive Indicator where
  /-- `SOLID`: idle or connected. -/
  | solid
  /-- `FAULT`: the fast blink. -/
  | fault
  deriving DecidableEq, Repr

/-- The argument of `Indicate` (R10). -/
inductive IndKind where
  | pulse
  | fault
  deriving DecidableEq, Repr

/-- The four delays (spec/70_reset_and_hazards.md R244). -/
inductive DelayKind where
  /-- `RD_PRE`, before the read byte loop. -/
  | rdPre
  /-- `RD_SETTLE`, between output-enable active and the sample. -/
  | rdSettle
  /-- `RD_POST`, after the read byte loop. -/
  | rdPost
  /-- `WR_CYCLE`, after each write strobe. -/
  | wrCycle
  deriving DecidableEq, Repr

/-- The fault reasons (spec/60_exceptions.md R212). -/
inductive FaultReason where
  /-- 1: receive overflow beyond the frame buffer (R100). -/
  | frameOverflow
  /-- 2: unrecognised command code (R101, R110). -/
  | badCommand
  /-- 3: a read past the address space bound (R151). -/
  | rangeRead
  /-- 4: a read without mask-ROM mode (R151). -/
  | mode
  /-- 5: a write past the address space bound (R172). -/
  | rangeWrite
  /-- 6: an index at or beyond the transfer buffer's capacity (R153, R173). -/
  | xbufOverflow
  deriving DecidableEq, Repr

/-- The spec's number of a fault reason (R212). -/
def FaultReason.number : FaultReason → Nat
  | .frameOverflow => 1
  | .badCommand => 2
  | .rangeRead => 3
  | .mode => 4
  | .rangeWrite => 5
  | .xbufOverflow => 6

/-- The events the primitives of R10 record; the ordered trace of them is the observation `EVT` (R12). -/
inductive Event where
  /-- `EV_LINES`: all address lines after a `Drive`. -/
  | lines (l : Lines)
  /-- `EV_DDIR`. -/
  | ddir (d : Direction)
  /-- `EV_OE`: the level put on `nOE`. -/
  | oe (l : Level)
  /-- `EV_WE`: the level put on `nWE`. -/
  | we (l : Level)
  /-- `EV_DOUT`. -/
  | dout (b : Byte)
  /-- `EV_SAMPLE`: the byte a `BusSample` returned. -/
  | sample (b : Byte)
  /-- `EV_DELAY`. -/
  | delay (k : DelayKind)
  /-- `EV_TX`. -/
  | tx (b : Byte)
  /-- `EV_RX`: the bytes taken. -/
  | rx (bytes : List Byte)
  /-- `EV_IND`. -/
  | ind (k : IndKind)
  /-- `EV_FAULT`. -/
  | fault (r : FaultReason)
  deriving DecidableEq, Repr

/-- The bus events: those of the lines, the samples and the waits between them (R11, R12). Transport and indicator
events are not on the bus. -/
def Event.onBus : Event → Bool
  | .lines _ => true
  | .ddir _ => true
  | .oe _ => true
  | .we _ => true
  | .dout _ => true
  | .sample _ => true
  | .delay _ => true
  | .tx _ => false
  | .rx _ => false
  | .ind _ => false
  | .fault _ => false

/-- The level of one named address line. -/
def Lines.level (l : Lines) : Line → Level
  | .pa k => l.pa.getLsbD k.val
  | .ul k => l.ul[k]
  | .ha => l.ha
  | .vsel => l.vsel
  | .ex => l.ex

end Sys2Proof.Machine
end

