-- ==== Sys2Proof/Config.lean ====
section
/-! DEFINITION. What is fixed for the machine: the constants of spec/00_scope.md R6, and the parameters of R7 that
the source leaves open. An open parameter is an opaque constant without a body, put into its allowed range by
construction, so that a theorem holds for every value the spec allows. -/

namespace Sys2Proof.Config
open Sys2Proof.Machine

/-- `BOUND` = 32768: valid target addresses are `[0, BOUND)` (R6). -/
abbrev bound : Nat := 32768

/-- `BLOCK` = 512 bytes, the length of every block transfer (R6). -/
abbrev block : Nat := 512

/-- `XB_CAP` = 512 bytes, the transfer buffer's capacity (R6). -/
abbrev xbCap : Nat := 512

/-- `BLOCKS_PER_PASS` = `BOUND / BLOCK` (R6). -/
abbrev blocksPerPass : Nat := bound / block

/-- `ACK` = 0x42 (R6). -/
abbrev ack : Byte := 0x42#8

/-- `CRC_POLY` (R6). -/
abbrev crcPoly : Crc := 0xEDB88320#32

/-- `CRC_INIT` (R6). -/
abbrev crcInit : Crc := 0xFFFFFFFF#32

/-- Free value: how far `FRAME_CAP` lies above its least value 2. DESIGN CHOICE, log entry 6. -/
opaque frameCapExtra : Nat

/-- `FRAME_CAP`, the frame buffer's capacity: any value of at least 2 (R7, D3). -/
def frameCap : Nat := frameCapExtra + 2

/-- Free value behind `ADDR_PERM`. DESIGN CHOICE, log entry 7. -/
opaque addrPermFree : Equiv.Perm (Fin 6)

/-- `ADDR_PERM`, the permutation σ: logical bit `8+k` drives `UL[σ(k)]`. Any bijection of {0..5} that is not the
identity (R7, R131, D12). -/
def addrPerm : Equiv.Perm (Fin 6) := if addrPermFree = 1 then Equiv.swap 0 1 else addrPermFree

/-- Free value behind `PAGE_SIZE`. DESIGN CHOICE, log entry 9. -/
opaque pageSizeFree : Nat

/-- `PAGE_SIZE`: any power of two from 1 to 512 (R7, R176, D27). -/
def pageSize : Nat := 2 ^ (pageSizeFree % 10)

/-- Free values behind the delay parameters. DESIGN CHOICE, log entry 10. -/
opaque delayFree : DelayKind → Nat

/-- `T_RD_PRE`, `T_RD_SETTLE`, `T_RD_POST`, `T_WR_CYCLE`: the least duration of each delay, above 0 in a time unit
the spec does not fix (R7, R244, D16). -/
def delayAtLeast (k : DelayKind) : Nat := delayFree k + 1

/-- `CURSOR_AT_RESET`: the cursor after the power-on with draw number `n`, any 16-bit value, drawn anew at each (R7, D11).
Free value. DESIGN CHOICE, log entry 5. -/
opaque cursorAtReset : Nat → Addr

/-- What the checksum engine's register holds once its `n`-th drawn computation is over: "no value of `crc` survives
between two computations" (spec/10_state.md R21). Free value. DESIGN CHOICE, log entry 14. -/
opaque crcLeft : Nat → Crc

/-- `UNDRIVEN_LVL(line, mode)`: the level of a top-bit line the mode does not drive (R7, R132, D13).
Free value. DESIGN CHOICE, log entry 8. -/
opaque undrivenLvl : Line → Mode → Level

/-- The `TARGET` oracle: the byte a `BusSample` returns, a function of the whole history of bus events and the
present physical line state, and nothing else constrains it (R11, D22). Free value. DESIGN CHOICE, log entry 11. -/
opaque targetSample : List Event → PhysicalLines → Byte

end Sys2Proof.Config
end

