-- ==== Sys2Proof/Machine/AddressBus.lean ====
section
/-! DEFINITION. The address bus driver's function from (address, mode) to line levels, and its per-bit assignment
table as data (spec/41_address_bus.md R130 to R136). -/

namespace Sys2Proof.Machine

/-- The indices of the six upper lines, in the order the driver writes them (R130). -/
def upperIndices : List (Fin 6) := [0, 1, 2, 3, 4, 5]

/-- `for k in 0..5: UL[ADDR_PERM(k)] <- a[8+k]` (R130, R131). -/
def driveUpper (a : Addr) (old : Vector Level 6) : Vector Level 6 :=
  upperIndices.foldl
    (fun ul k => ul.set (Config.addrPerm k).val (a.getLsbD (8 + k.val)) (Config.addrPerm k).isLt) old

/-- The line levels after `Drive(a, mode)`, from the levels before it (R130). Logical bit 15 drives nothing
(R133). -/
def driveLines (a : Addr) (mode : Mode) (old : Lines) : Lines :=
  match mode with
  | .mask =>
    { pa := a.extractLsb' 0 8, ul := driveUpper a old.ul, ha := a.getLsbD 14, vsel := a.getLsbD 14,
      ex := Config.undrivenLvl .ex .mask }
  | .eeprom =>
    { pa := a.extractLsb' 0 8, ul := driveUpper a old.ul, ha := Config.undrivenLvl .ha .eeprom,
      vsel := Config.undrivenLvl .vsel .eeprom, ex := a.getLsbD 14 }

/-- The lines that logical bit 14 drives in a mode (R132, R136). -/
def topBitLines : Mode → List Line
  | .mask => [.ha, .vsel]
  | .eeprom => [.ex]

/-- The per-bit assignment table (R136): each logical bit with the lines it drives. -/
def bitAssignment (mode : Mode) : List (Nat × List Line) :=
  [(0, [.pa 0]), (1, [.pa 1]), (2, [.pa 2]), (3, [.pa 3]),
   (4, [.pa 4]), (5, [.pa 5]), (6, [.pa 6]), (7, [.pa 7])] ++
  [(8, [.ul (Config.addrPerm 0)]), (9, [.ul (Config.addrPerm 1)]), (10, [.ul (Config.addrPerm 2)]),
   (11, [.ul (Config.addrPerm 3)]), (12, [.ul (Config.addrPerm 4)]), (13, [.ul (Config.addrPerm 5)])] ++
  [(14, topBitLines mode), (15, [])]

end Sys2Proof.Machine
end

