-- ==== Sys2Proof/Machine/Checksum.lean ====
section
/-! DEFINITION. The checksum engine: bit-serial reflected CRC-32 (spec/44_checksum.md R190 to R194). -/

namespace Sys2Proof.Machine

/-- `CrcBit`: one bit step (R190). The shift direction is the spec's general knowledge G1. -/
def crcBit (c : Crc) : Crc :=
  if c.getLsbD 0 then (c >>> 1) ^^^ Config.crcPoly else c >>> 1

/-- `n` bit steps in a row. -/
def crcBits : Nat → Crc → Crc
  | 0, c => c
  | n + 1, c => crcBits n (crcBit c)

/-- `CrcByte`: the byte enters at bits 7..0 and is shifted through 8 bit steps (R191). -/
def crcByte (c : Crc) (b : Byte) : Crc := crcBits 8 (c ^^^ b.setWidth 32)

/-- `CrcRun`: the running register over the first `n` bytes of a buffer, in ascending index order (R192). -/
def crcRun (buf : List Byte) (n : Nat) : Crc := (buf.take n).foldl crcByte Config.crcInit

/-- `CRC32`: the one's complement of the running register (R193). -/
def crc32 (buf : List Byte) (n : Nat) : Crc := ~~~ crcRun buf n

/-- The trailer: the 4 bytes of a checksum, least-significant byte first (R194). -/
def trailer (c : Crc) : List Byte :=
  [c.extractLsb' 0 8, c.extractLsb' 8 8, c.extractLsb' 16 8, c.extractLsb' 24 8]

end Sys2Proof.Machine
end

