-- ==== Sys2Proof/Syntax.lean ====
section
/-! DEFINITION. The host command set (spec/30_encoding.md R70 to R79): one constructor of `Instr` per row of
spec/opcode_table.json, the packet in which bytes arrive (spec/20_memory.md R52), and the spec's notation for the
lines of a host program (R79). -/

namespace Sys2Proof

/-- The five commands (R72). None of them has an operand: every block operation uses `start = cursor` and
length 512 (R71). -/
inductive Instr where
  /-- `PING`, frame `42 01`: the liveness check (R105). -/
  | ping
  /-- `START`, frame `42 02`: StartSession (R106). -/
  | start
  /-- `READ`, frame `42 03`: ReadBlock, unmasked (R107). -/
  | read
  /-- `READM`, frame `42 04`: ReadBlockMasked (R108). -/
  | readm
  /-- `WRITE`, frame `42 05`: WriteBlock (R109). -/
  | write
  deriving DecidableEq, Repr

/-- A packet, the source's "receive batch": a NON-EMPTY sequence of bytes (R52), so it is its first byte and the
bytes after it. -/
structure Packet where
  first : Byte
  rest  : List Byte
  deriving DecidableEq, Repr

/-- The bytes of a packet, first byte first in time. -/
def Packet.bytes (p : Packet) : List Byte := p.first :: p.rest

/-- One line of a host program in the spec's own syntax (R79): each line is one packet the host sends. -/
inductive HostLine where
  /-- `PING`, `START`, `READ`, `READM`, `WRITE`: the 2-byte frame of R72. -/
  | command (i : Instr)
  /-- `DATA b0 b1 ...`: the listed bytes. -/
  | data (bytes : List Byte)
  /-- `DATA512 f(i)`: 512 bytes, byte `i` being `f(i)`; the bytes are written out. -/
  | data512 (bytes : List Byte)
  /-- `RAW b0 b1 ...`: an arbitrary packet, for illegal frames. -/
  | raw (bytes : List Byte)
  deriving DecidableEq, Repr

end Sys2Proof
end

