-- ==== Sys2Proof/Machine/State.lean ====
section
/-! DEFINITION. The machine's state as plain data: every register, buffer, line and queue of spec/10_state.md and
spec/20_memory.md, the event trace of spec/00_scope.md R12, and two fields of the model's own (`turns`, `draws`);
the reasons a step can stop; the state after reset (R40). -/

namespace Sys2Proof.Machine

/-- `phase`, the sequencer's state, which takes the place of a program counter (R15). -/
inductive Phase where
  /-- `IDLE`: the dispatcher polls the transport (R100, R101). -/
  | idle
  /-- `DISPATCH`: route the pending command (R102). -/
  | dispatch
  /-- `PING`: send "PONG" (R105). -/
  | ping
  /-- `SESSION`: reset the cursor (R106). -/
  | session
  /-- `RD_CHECK`: range and mode checks (R151). -/
  | rdCheck
  /-- `RD_SETUP`: configure the bus (R152). -/
  | rdSetup
  /-- `RD_LOOP`: one byte cycle at index `i` (R153). -/
  | rdLoop
  /-- `RD_POST`: the post-loop delay (R154). -/
  | rdPost
  /-- `RD_SEND`: send the block and the trailer, and advance (R155). -/
  | rdSend
  /-- `WR_SETUP`: configure the bus (R171). -/
  | wrSetup
  /-- `WR_CHECK`: the range check (R172). -/
  | wrCheck
  /-- `WR_RECV`: take one host byte (R173). -/
  | wrRecv
  /-- `WR_LOOP`: one byte cycle at index `i` (R174). -/
  | wrLoop
  /-- `WR_ACK`: acknowledge and advance (R175). -/
  | wrAck
  /-- `COMPLETE`: clear the slot and the frame buffer (R104). -/
  | complete
  /-- `FAULTED`: terminal (R210). -/
  | faulted
  deriving DecidableEq, Repr

/-- Whose step comes next, and what the environment does in it (R8). The model's own, log entry 3. -/
inductive Turn where
  /-- An `ENGINE` step. -/
  | engine
  /-- A `HOST` step that appends a packet to the receive queue (R52). -/
  | hostSend (p : Packet)
  /-- A `HOST` step that removes one byte from the head of the transmit queue (R53). -/
  | hostTake
  /-- A power cycle or external reset (R230). What the host has sent when the block comes up is `waiting`. -/
  | powerCycle (waiting : List Packet)
  deriving DecidableEq, Repr

/-- Why the machine stops. -/
inductive Fault where
  /-- Raised by an `ENGINE` turn in phase `FAULTED`, which has no step (R210): a fault outcome, never a successful
  end. It carries `fault_reason`. Safe: the spec's own terminal state. Log entry 2. -/
  | halted (reason : Option FaultReason)
  /-- Raised by an `ENGINE` turn in a phase between `DISPATCH` and `COMPLETE` with an empty command slot. No run
  reaches such a state (R103). Safe: a stuck state. Log entry 17. -/
  | emptySlot
  deriving DecidableEq, Repr

/-- Why an instruction is given no meaning. -/
inductive Refusal where
  /-- An instruction whose arm has no meaning. No arm uses it. Safe. -/
  | notModelled (mnemonic : String)
  /-- Raised by a write cycle in mask-ROM mode: "write is not defined for mask-ROM devices"
  (spec/93_implementation_defined.md U2, treatment `refuse`). No run reaches it. Safe. Log entry 16. -/
  | maskModeWrite
  deriving DecidableEq, Repr

/-- The state of the machine. -/
structure State where
  /-- `cmd`, the command slot; `none` is the value None, and `slotCode` gives its 3-bit value (R14). -/
  cmd         : Option Instr
  /-- `phase` (R15). -/
  phase       : Phase
  /-- `i`, the byte index of the current loop, 10 bits (R16). -/
  i           : BitVec 10
  /-- `start`, the latch of the cursor for the current block operation (R16). -/
  start       : Addr
  /-- `mode`, the address bus driver's mode flag for the current operation (R17). -/
  mode        : Mode
  /-- `cursor`, the Session Address Cursor (R18). -/
  cursor      : Addr
  /-- `FB[0..fb_len)`; `fb_len` is the list's length, and elements at and beyond it hold no value (R19). -/
  fb          : List Byte
  /-- `XB[0..511]`, the transfer buffer (R20). -/
  xb          : Vector Byte Config.xbCap
  /-- `crc`, the checksum engine's working register (R21). -/
  crc         : Crc
  /-- `fault_reason` (R22). -/
  faultReason : Option FaultReason
  /-- `PA`, `UL`, `HA`, `VSEL`, `EX` (R23). -/
  lines       : Lines
  /-- `DDIR` (R24). -/
  ddir        : Direction
  /-- `DOUT[7:0]` (R24). -/
  dout        : Byte
  /-- `nOE`, active low (R25). -/
  nOE         : Level
  /-- `nWE`, active low (R25). -/
  nWE         : Level
  /-- `IND` (R27). -/
  ind         : Indicator
  /-- `RXQ`, head first (R52). -/
  rxq         : List Packet
  /-- `TXQ`, head first (R53). -/
  txq         : List Byte
  /-- `EVT`, the event trace, oldest first (R12). -/
  evt         : List Event
  /-- The model's own: whose turns come next; when it is used up, every turn is the engine's. Log entry 3. -/
  turns       : List Turn
  /-- The model's own: how many free values have been drawn, which the next one is drawn with: `CURSOR_AT_RESET` at
  each power-on (log entry 5) and what `crc` holds after a computation (log entry 14). -/
  draws       : Nat
  deriving DecidableEq, Repr

/-- `fb_len` (R19). -/
def State.fbLen (s : State) : Nat := s.fb.length

/-- Every address line low: the value the model names for the lines at reset, log entry 12. -/
def Lines.allLow : Lines :=
  { pa := 0#8, ul := Vector.replicate 6 Level.low, ha := Level.low, vsel := Level.low, ex := Level.low }

/-- The state after a power-on with draw number `draws` and the boot sequence (R40, R231). The cursor is the open
parameter `CURSOR_AT_RESET`. For `i`, `start`, `mode`, `XB`, `crc`, the address lines, `DDIR` and `DOUT` the spec states no
value: DESIGN CHOICE, log entry 12. What the host has sent, the trace so far and the turns to come are arguments. -/
def State.boot (draws : Nat) (waiting : List Packet) (evt : List Event) (turns : List Turn) : State :=
  { cmd := none, phase := .idle, i := 0#10, start := 0#16, mode := .mask,
    cursor := Config.cursorAtReset draws, fb := [], xb := Vector.replicate Config.xbCap 0#8, crc := 0#32,
    faultReason := none, lines := Lines.allLow, ddir := .input, dout := 0#8,
    nOE := Level.high, nWE := Level.high, ind := .solid, rxq := waiting, txq := [],
    evt := evt, turns := turns, draws := draws }

/-- The machine right after reset (R40): draw number 0, nothing sent by the host yet, an empty trace. -/
def State.reset : State := State.boot 0 [] [] []

end Sys2Proof.Machine
end

