-- ==== Sys2Proof/Machine/Flags.lean ====
section
/-! DEFINITION. The block has no condition codes (spec/10_state.md R29). Here stand the flag-like conditions the
step rules test: the range and mode checks, the frame-buffer overflow, and whether the block has faulted. -/

namespace Sys2Proof.Machine

/-- `zext_17(start) + 512 > BOUND`: the sum is computed in 17 bits and does not wrap (R151, R172). -/
def rangeViolated (start : Addr) : Bool := decide (Config.bound < (start.setWidth 17 + 512#17).toNat)

/-- `mode != MASK`: a read without mask-ROM mode (R151). -/
def modeViolated (mode : Mode) : Bool := decide (mode ≠ .mask)

/-- `fb_len + len(p) > FRAME_CAP` (R100). -/
def frameOverflows (fbLen packetLen : Nat) : Bool := decide (Config.frameCap < fbLen + packetLen)

/-- Whether `phase = FAULTED` (R29 (a)). -/
def State.isFaulted (s : State) : Bool := decide (s.phase = .faulted)

end Sys2Proof.Machine
end

