-- ==== Sys2Proof/Machine/Operands.lean ====
section
/-! DEFINITION. The operands of the block commands. No frame carries one (spec/30_encoding.md R71): the start is the
cursor, the length is 512, the address of a byte cycle is `start + i`; and the page geometry of
spec/43_block_write.md R176. -/

namespace Sys2Proof.Machine

/-- `a <- start + i`, 16 bits: the target address of the byte cycle at index `i` (R153, R174). -/
def cycleAddr (s : State) : Addr := s.start + s.i.setWidth 16

/-- The cursor after a successful block: `cursor + 512`, 16 bits (R155, R175). -/
def advancedCursor (cursor : Addr) : Addr := cursor + 512#16

/-- `PageBase(a) = a and not_16(PAGE_SIZE - 1)`: the address rounded down to a multiple of `PAGE_SIZE` (R176). -/
def pageBase (a : Addr) : Addr := a &&& ~~~ BitVec.ofNat 16 (Config.pageSize - 1)

end Sys2Proof.Machine
end

