-- ==== Sys2Proof/Machine/Ops.lean ====
section
/-! DEFINITION. The primitives of spec/00_scope.md R10, which every rule that moves data uses, each with the event
it records; fault entry (spec/60_exceptions.md R211), from which no return exists (R214); the byte store into the
transfer buffer; the `HOST` and power-cycle turns (spec/20_memory.md R52, R53; spec/70_reset_and_hazards.md R230). -/

namespace Sys2Proof.Machine

/-- Append one event to the trace (R12). -/
def record (e : Event) (s : State) : State := { s with evt := s.evt ++ [e] }

/-- `phase <- p` (R10). -/
def setPhase (p : Phase) (s : State) : State := { s with phase := p }

/-- `Drive(a, mode)`: all address lines at once, in one event (R130, R137). -/
def drive (a : Addr) (mode : Mode) (s : State) : State :=
  record (.lines (driveLines a mode s.lines)) { s with lines := driveLines a mode s.lines }

/-- `Set(DDIR, d)` (R10). -/
def setDdir (d : Direction) (s : State) : State := record (.ddir d) { s with ddir := d }

/-- `Set(nOE, l)` (R10). -/
def setOE (l : Level) (s : State) : State := record (.oe l) { s with nOE := l }

/-- `Set(nWE, l)` (R10). -/
def setWE (l : Level) (s : State) : State := record (.we l) { s with nWE := l }

/-- `Set(DOUT, b)` (R10). -/
def setDout (b : Byte) (s : State) : State := record (.dout b) { s with dout := b }

/-- What the block drives onto the data lines: `DOUT` when `DDIR = OUT`; when `DDIR = IN`, `DOUT` is not driven onto
the lines (R24). -/
def drivenData (s : State) : Option Byte :=
  match s.ddir with
  | .output => some s.dout
  | .input => none

/-- The physical line state as the target sees it (R11). -/
def physical (s : State) : PhysicalLines :=
  { lines := s.lines, ddir := s.ddir, data := drivenData s, nOE := s.nOE, nWE := s.nWE }

/-- The byte `BusSample()` returns: the `TARGET` oracle of R11. -/
def busSample (s : State) : Byte := Config.targetSample (s.evt.filter Event.onBus) (physical s)

/-- `Delay(kind)` (R10): a busy-wait of at least `Config.delayAtLeast kind`, seen as one event. -/
def delay (k : DelayKind) (s : State) : State := record (.delay k) s

/-- `TxSend(b)`: never blocks, never drops (R53). -/
def txSend (b : Byte) (s : State) : State := record (.tx b) { s with txq := s.txq ++ [b] }

/-- `TxSend` of each byte of a list, in order. -/
def txSendAll (bytes : List Byte) (s : State) : State := bytes.foldl (fun t b => txSend b t) s

/-- `RxTakePacket()`: the head packet is `p` and the rest of the queue is `ps` (R52). -/
def rxTakePacket (p : Packet) (ps : List Packet) (s : State) : State := record (.rx p.bytes) { s with rxq := ps }

/-- The receive queue after its first byte is taken; a packet that is then empty is removed (R52). -/
def dropHeadByte (p : Packet) (ps : List Packet) : List Packet :=
  match p.rest with
  | [] => ps
  | b :: bs => ⟨b, bs⟩ :: ps

/-- `RxTakeByte()`: the head packet is `p`, its first byte is taken (R52). -/
def rxTakeByte (p : Packet) (ps : List Packet) (s : State) : State :=
  record (.rx [p.first]) { s with rxq := dropHeadByte p ps }

/-- `Indicate(k)` (R10). -/
def indicate (k : IndKind) (s : State) : State := record (.ind k) s

/-- `raise Fault(r)`, fault entry (R211): the one exception of the block. It saves nothing, clears nothing, and
replaces the rest of the step that raised it. -/
def raise (r : FaultReason) (s : State) : State :=
  { s with faultReason := some r, ind := .fault }
    |> indicate .fault |> record (.fault r) |> setPhase .faulted

/-- The common end of `RD_LOOP` and `WR_RECV` (R153, R173): `if i >= XB_CAP: raise Fault(XBUF_OVERFLOW)`, then
`XB[i] <- b`, `i <- i + 1`, and at `i = 512` what `atEnd` says. -/
def storeByte (b : Byte) (atEnd : State → State) (s : State) : State :=
  if h : s.i.toNat < Config.xbCap then
    let t := { s with xb := s.xb.set s.i.toNat b h, i := s.i + 1#10 }
    if t.i = 512#10 then atEnd t else t
  else raise .xbufOverflow s

/-- `cursor <- c` (R18). -/
def setCursor (c : Addr) (s : State) : State := { s with cursor := c }

/-- `cursor <- cursor + 512` (R155, R175). -/
def advanceCursor (s : State) : State := setCursor (advancedCursor s.cursor) s

/-- The checksum engine's register takes a value (R21). -/
def setCrc (c : Crc) (s : State) : State := { s with crc := c }

/-- A `HOST` step: append a packet at the tail of the receive queue (R52). -/
def hostSend (p : Packet) (s : State) : State := { s with rxq := s.rxq ++ [p] }

/-- A `HOST` step: remove the byte at the head of the transmit queue (R53). On an empty queue the turn changes nothing:
DESIGN CHOICE, log entry 24. -/
def hostTake (s : State) : State := { s with txq := s.txq.drop 1 }

/-- A power cycle or external reset (R214, R230): every piece of state at the value of R40. The trace of the run
and the turns to come go on. -/
def powerCycle (waiting : List Packet) (s : State) : State :=
  State.boot (s.draws + 1) waiting s.evt s.turns

end Sys2Proof.Machine
end

