-- ==== Sys2Proof/Machine/BlockRead.lean ====
section
/-! DEFINITION. The block read sequence (spec/42_block_read.md R150 to R158), one definition per phase. -/

namespace Sys2Proof.Machine

/-- `RD_CHECK` (R151): latch the start, then the range check, then the mode check, before any bus event. -/
def rdCheck (s : State) : State :=
  let t := { s with start := s.cursor }
  if rangeViolated t.start then raise .rangeRead t
  else if modeViolated t.mode then raise .mode t
  else setPhase .rdSetup t

/-- `RD_SETUP` (R152): data lines to input, output-enable inactive, the pre-loop delay. -/
def rdSetup (s : State) : State :=
  let t := s |> setDdir .input |> setOE Level.high |> delay .rdPre
  { t with i := 0#10, phase := .rdLoop }

/-- The bus part of a read cycle up to the sample (R153): drive, output-enable active, settle. -/
def readAccess (s : State) : State :=
  s |> drive (cycleAddr s) .mask |> setOE Level.low |> delay .rdSettle

/-- `RD_LOOP` (R153): one read cycle. -/
def rdLoop (s : State) : State :=
  let t := readAccess s
  let b := busSample t
  t |> record (.sample b) |> setOE Level.high |> storeByte b (setPhase .rdPost)

/-- `RD_POST` (R154): the post-loop delay. -/
def rdPost (s : State) : State := s |> delay .rdPost |> setPhase .rdSend

/-- The checksum engine's run over the transfer buffer: the running register over the block (R192). -/
def runChecksum (s : State) : State := setCrc (crcRun s.xb.toList Config.block) s

/-- The trailer: the register's complement, which is the checksum (R193), least-significant byte first (R194). -/
def sendTrailer (s : State) : State := txSendAll (trailer (~~~ s.crc)) s

/-- The computation is over, and no value of `crc` survives it (R21, R195): the register holds a free value,
log entry 14. -/
def dropChecksum (s : State) : State :=
  { s with crc := Config.crcLeft s.draws, draws := s.draws + 1 }

/-- `RD_SEND` (R155): the 512 data bytes, the trailer, the cursor advance, the pulse. -/
def rdSend (s : State) : State :=
  s |> txSendAll s.xb.toList |> runChecksum |> sendTrailer |> dropChecksum
    |> advanceCursor |> indicate .pulse |> setPhase .complete

end Sys2Proof.Machine
end

