-- ==== Sys2Proof/Machine/BlockWrite.lean ====
section
/-! DEFINITION. The block write sequence (spec/43_block_write.md R170 to R179), one definition per phase. -/

namespace Sys2Proof.Machine

/-- `WR_SETUP` (R171): latch the start, data lines to output, both enables inactive. -/
def wrSetup (s : State) : State :=
  { s with start := s.cursor }
    |> setDdir .output |> setOE Level.high |> setWE Level.high |> setPhase .wrCheck

/-- `WR_CHECK` (R172): the range check, after the bus configuration. -/
def wrCheck (s : State) : State :=
  if rangeViolated s.start then raise .rangeWrite s
  else { s with i := 0#10, phase := .wrRecv }

/-- `WR_RECV` (R173): take one host byte. With an empty receive queue the engine holds: the turn changes nothing,
log entry 1. -/
def wrRecv (s : State) : State :=
  match s.rxq with
  | [] => s
  | p :: ps =>
    s |> rxTakeByte p ps |> storeByte p.first (fun t => { t with i := 0#10, phase := .wrLoop })

/-- The strobe of a write cycle (R174): `nWE` to 0 (active), then to 1 (inactive), then the write-cycle delay. -/
def writeStrobe (s : State) : State :=
  s |> setWE Level.low |> setWE Level.high |> delay .wrCycle

/-- `i <- i + 1; if i = 512: phase <- WR_ACK` (R174). -/
def nextWriteIndex (s : State) : State :=
  let t := { s with i := s.i + 1#10 }
  if t.i = 512#10 then setPhase .wrAck t else t

/-- `WR_LOOP` (R174): one write cycle, always driven in `EEPROM` mode. A write in mask-ROM mode has no meaning
(U2, log entry 16), so the cycle refuses it. The page base of R176 (`pageBase (cycleAddr s)`) has no event and no
effect. An index beyond the buffer, which no run reaches, faults as R20 says, log entry 15. -/
def wrLoop (s : State) : Host.Outcome State Fault Refusal :=
  match s.mode with
  | .mask => .refused .maskModeWrite
  | .eeprom =>
    let t := drive (cycleAddr s) .eeprom s
    if h : t.i.toNat < Config.xbCap then
      .next (t |> setDout (t.xb[t.i.toNat]) |> writeStrobe |> nextWriteIndex)
    else .next (raise .xbufOverflow t)

/-- `WR_ACK` (R175): the acknowledgment, the cursor advance, the pulse. -/
def wrAck (s : State) : State :=
  s |> txSend Config.ack |> advanceCursor |> indicate .pulse |> setPhase .complete

end Sys2Proof.Machine
end

