-- ==== Sys2Proof/WellFormed.lean ====
section
/-! DEFINITION. Well-formedness of commands and of host program lines (spec/30_encoding.md R71, R79;
spec/20_memory.md R52). -/

namespace Sys2Proof

/-- Every command is well formed: a frame has no field beside the prefix and the code (R71), so there is no operand
whose range could be left. -/
def Instr.wf : Instr → Bool
  | .ping => true
  | .start => true
  | .read => true
  | .readm => true
  | .write => true

/-- A host line is one packet, so its bytes are not none (R52); a `DATA512` line has exactly 512 bytes (R79). -/
def HostLine.wf : HostLine → Bool
  | .command i => i.wf
  | .data bytes => !bytes.isEmpty
  | .data512 bytes => bytes.length == 512
  | .raw bytes => !bytes.isEmpty

end Sys2Proof
end

