-- ==== Sys2Proof/Decode.lean ====
section
/-! DEFINITION. The decoder of the frame buffer (spec/30_encoding.md R70 to R75, spec/40_commands.md R101) and,
after it, the encoder, both written from the table of R72; then the reading of a word of spec/opcode_table.json. -/

namespace Sys2Proof

/-- `PREFIX` = 0x42 (spec/00_scope.md R6). -/
def framePrefix : Byte := 0x42#8

/-- What the dispatcher finds in the frame buffer (R101). -/
inductive Decoded where
  /-- Fewer than 2 bytes: no recognition yet (R70, R101). -/
  | incomplete
  /-- Byte 0 is not the prefix: no recognition, the bytes stay (R74). -/
  | notPrefixed
  /-- A recognised frame whose code is 0x00 or 0x06..0xFF (R73). -/
  | badCommand (code : Byte)
  /-- A recognised frame of the command `i` (R72). -/
  | instr (i : Instr)
  deriving DecidableEq, Repr

/-- The command a code selects (R72); no other value is a command (R73). -/
def codeToInstr (code : Byte) : Option Instr :=
  if code = 0x01#8 then some .ping
  else if code = 0x02#8 then some .start
  else if code = 0x03#8 then some .read
  else if code = 0x04#8 then some .readm
  else if code = 0x05#8 then some .write
  else none

/-- The decoder, total on any contents of the frame buffer. Only bytes 0 and 1 are interpreted; the bytes after
them are reserved and ignored whatever their values (R70, R75). -/
def decode : List Byte → Decoded
  | [] => .incomplete
  | [_] => .incomplete
  | b0 :: b1 :: _ =>
    if b0 = framePrefix then
      match codeToInstr b1 with
      | some i => .instr i
      | none => .badCommand b1
    else .notPrefixed

/-- The command code, "ordinal values of the enumerated Command, excluding `None=0`" (R72). -/
def Instr.code : Instr → Byte
  | .ping => 0x01#8
  | .start => 0x02#8
  | .read => 0x03#8
  | .readm => 0x04#8
  | .write => 0x05#8

/-- The encoder: the 2-byte frame of a command, byte 0 first (R70, R72). -/
def encode (i : Instr) : List Byte := [framePrefix, i.code]

/-- The frame as the packet a dutiful host sends it in: exactly 2 bytes (spec/70_reset_and_hazards.md R241). -/
def framePacket (i : Instr) : Packet := ⟨framePrefix, [i.code]⟩

/-- `frame16 = FB[0] ++ FB[1]`: the 16-bit pattern of a frame, byte 0 in the high 8 bits (R70). -/
def encodeWord (i : Instr) : BitVec 16 := framePrefix ++ i.code

/-- The value of the 3-bit command slot: None = 0, Ping = 1, ..., WriteBlock = 5 (spec/10_state.md R14). -/
def slotCode : Option Instr → BitVec 3
  | none => 0#3
  | some .ping => 1#3
  | some .start => 2#3
  | some .read => 3#3
  | some .readm => 4#3
  | some .write => 5#3

/-- The packet a host line sends (R79); none for a line that is not well formed. -/
def HostLine.packet : HostLine → Option Packet
  | .command i => some (framePacket i)
  | .data [] => none
  | .data (b :: bs) => some ⟨b, bs⟩
  | .data512 [] => none
  | .data512 (b :: bs) => if (b :: bs).length = 512 then some ⟨b, bs⟩ else none
  | .raw [] => none
  | .raw (b :: bs) => some ⟨b, bs⟩

/-- The packet of the word `w` of the opcode table. The table's word is `frame16` (R70): bits 15..8 are byte 0 and
bits 7..0 are byte 1, byte 0 sent first. Bits at and above `nbits` are 0. -/
def tablePacket (nbits w : Nat) : Packet :=
  let v := w % 2 ^ nbits
  ⟨BitVec.ofNat 8 (v / 256), [BitVec.ofNat 8 v]⟩

/-- The command the decoder reads from the word `w` of the opcode table. -/
def decodeTableWord (nbits w : Nat) : Option Instr :=
  match decode (tablePacket nbits w).bytes with
  | .instr i => some i
  | .incomplete => none
  | .notPrefixed => none
  | .badCommand _ => none

end Sys2Proof
end

