-- ==== Sys2Proof/Machine/Control.lean ====
section
/-! DEFINITION. The command dispatcher's steps and the two commands without a block transfer
(spec/40_commands.md R100 to R106): poll, recognise, route, complete, `PING`, `SESSION`. -/

namespace Sys2Proof.Machine

/-- What the engine's turn has to do, before an instruction's meaning is called. -/
inductive Fetched where
  /-- Run the meaning of `i` in `s`. -/
  | run (i : Instr) (s : State)
  /-- No instruction runs in this turn; the state is `s`. -/
  | stay (s : State)
  /-- The engine has no step. -/
  | stop (f : Fault)
  deriving DecidableEq, Repr

/-- Recognise, the end of the poll step (R101). A recognised command goes on to `acceptCommand`, which its meaning
calls in phase `IDLE`. -/
def recognise (s : State) : Fetched :=
  if s.cmd = none then
    match decode s.fb with
    | .instr i => .run i s
    | .badCommand _ => .stay (raise .badCommand s)
    | .notPrefixed => .stay s
    | .incomplete => .stay s
  else .stay s

/-- The poll step (R100). With an empty receive queue the engine holds: the turn changes nothing, log entry 1. -/
def poll (s : State) : Fetched :=
  match s.rxq with
  | [] => .stay s
  | p :: ps =>
    let t := rxTakePacket p ps s
    if frameOverflows t.fbLen p.bytes.length then .stay (raise .frameOverflow t)
    else recognise { t with fb := t.fb ++ p.bytes }

/-- The command in flight: every phase from `DISPATCH` to `COMPLETE` runs the command in the slot (R103). -/
def inFlight (s : State) : Fetched :=
  match s.cmd with
  | some i => .run i s
  | none => .stop .emptySlot

/-- The engine's turn: poll in `IDLE`, nothing in `FAULTED` (R210), else a step of the command in flight. -/
def fetch (s : State) : Fetched :=
  match s.phase with
  | .idle => poll s
  | .faulted => .stop (.halted s.faultReason)
  | .dispatch => inFlight s
  | .ping => inFlight s
  | .session => inFlight s
  | .rdCheck => inFlight s
  | .rdSetup => inFlight s
  | .rdLoop => inFlight s
  | .rdPost => inFlight s
  | .rdSend => inFlight s
  | .wrSetup => inFlight s
  | .wrCheck => inFlight s
  | .wrRecv => inFlight s
  | .wrLoop => inFlight s
  | .wrAck => inFlight s
  | .complete => inFlight s

/-- `cmd <- FB[1]; phase <- DISPATCH` (R101). -/
def acceptCommand (i : Instr) (s : State) : State := { s with cmd := some i, phase := .dispatch }

/-- `mode <- m; phase <- p`: the dispatch of a block command (R102). -/
def routeBlock (m : Mode) (p : Phase) (s : State) : State := { s with mode := m, phase := p }

/-- `PING` (R105): send "PONG", pulse. The ASCII codes are the spec's general knowledge G2. -/
def pingStep (s : State) : State :=
  s |> txSendAll [0x50#8, 0x4F#8, 0x4E#8, 0x47#8] |> indicate .pulse |> setPhase .complete

/-- `SESSION` (R106): `cursor <- 0x0000`, pulse; no reply and no bus event. -/
def sessionStep (s : State) : State :=
  s |> setCursor 0x0000#16 |> indicate .pulse |> setPhase .complete

/-- `COMPLETE` (R104): `cmd <- None; fb_len <- 0; phase <- IDLE`. -/
def completeStep (s : State) : State := { s with cmd := none, fb := [], phase := .idle }

end Sys2Proof.Machine
end

