-- ==== Sys2Proof/Machine/Commands.lean ====
section
/-! DEFINITION. The meaning of each of the five commands (spec/40_commands.md R105 to R109). A command takes many
engine steps, so its meaning is ONE engine step of it, chosen by `phase` (spec/10_state.md R15): it is accepted in
`IDLE`, routed in `DISPATCH` by its own row of R102, and then goes through the phases of its sequence to
`COMPLETE` or `FAULTED`. -/

namespace Sys2Proof.Machine

/-- One engine step of the command `i`, whose row of the dispatch table is `route` (R102). -/
def commandStep (i : Instr) (route : State → State) (s : State) : Host.Outcome State Fault Refusal :=
  match s.phase with
  | .idle => .next (acceptCommand i s)
  | .dispatch => .next (route s)
  | .ping => .next (pingStep s)
  | .session => .next (sessionStep s)
  | .rdCheck => .next (rdCheck s)
  | .rdSetup => .next (rdSetup s)
  | .rdLoop => .next (rdLoop s)
  | .rdPost => .next (rdPost s)
  | .rdSend => .next (rdSend s)
  | .wrSetup => .next (wrSetup s)
  | .wrCheck => .next (wrCheck s)
  | .wrRecv => .next (wrRecv s)
  | .wrLoop => wrLoop s
  | .wrAck => .next (wrAck s)
  | .complete => .next (completeStep s)
  | .faulted => .fault (.halted s.faultReason)

/-- `PING` (R105): dispatch goes to phase `PING`. -/
def execPing (s : State) : Host.Outcome State Fault Refusal := commandStep .ping (setPhase .ping) s

/-- `START` (R106): dispatch goes to phase `SESSION`. -/
def execStart (s : State) : Host.Outcome State Fault Refusal := commandStep .start (setPhase .session) s

/-- `READ` (R107): "read, unmasked": dispatch sets `mode <- EEPROM` and goes to `RD_CHECK`, which always faults. -/
def execRead (s : State) : Host.Outcome State Fault Refusal :=
  commandStep .read (routeBlock .eeprom .rdCheck) s

/-- `READM` (R108): "read, mask-ROM mode": dispatch sets `mode <- MASK` and goes to `RD_CHECK`. -/
def execReadm (s : State) : Host.Outcome State Fault Refusal :=
  commandStep .readm (routeBlock .mask .rdCheck) s

/-- `WRITE` (R109): dispatch sets `mode <- EEPROM` and goes to `WR_SETUP`. -/
def execWrite (s : State) : Host.Outcome State Fault Refusal :=
  commandStep .write (routeBlock .eeprom .wrSetup) s

end Sys2Proof.Machine
end

