-- ==== Sys2Proof/Machine/Dispatch.lean ====
section
/-! DEFINITION. One arm per command: its meaning. -/

namespace Sys2Proof.Machine

def exec (i : Instr) (s : State) : Host.Outcome State Fault Refusal :=
  match i with
  | .ping => Sys2Proof.Machine.execPing s
  | .start => Sys2Proof.Machine.execStart s
  | .read => Sys2Proof.Machine.execRead s
  | .readm => Sys2Proof.Machine.execReadm s
  | .write => Sys2Proof.Machine.execWrite s

end Sys2Proof.Machine
end

