-- ==== Sys2Proof/Machine/Turns.lean ====
section
/-! DEFINITION. Whose turn it is (spec/00_scope.md R8, spec/20_memory.md R58): `HOST` steps and power cycles stand
between two engine steps, at any point. -/

namespace Sys2Proof.Machine

/-- The next turn taken off the schedule. -/
inductive TurnTaken where
  /-- The environment has acted; the state is `s`. -/
  | environment (s : State)
  /-- It is the engine's turn in `s`. -/
  | engine (s : State)
  deriving DecidableEq, Repr

/-- Take the next turn. A schedule that is used up leaves every turn to the engine. -/
def takeTurn (s : State) : TurnTaken :=
  match s.turns with
  | [] => .engine s
  | .engine :: ts => .engine { s with turns := ts }
  | .hostSend p :: ts => .environment (hostSend p { s with turns := ts })
  | .hostTake :: ts => .environment (hostTake { s with turns := ts })
  | .powerCycle waiting :: ts => .environment (powerCycle waiting { s with turns := ts })

/-- The frame of a table word placed where the next poll takes it: the head of the receive queue, the engine idle
with an empty slot and frame buffer, and the engine's turn next. -/
def placeFrame (p : Packet) (s : State) : State :=
  { s with phase := .idle, cmd := none, fb := [], rxq := p :: s.rxq, turns := .engine :: s.turns }

end Sys2Proof.Machine
end

