-- ==== Sys2Proof/Machine/Step.lean ====
section
/-! DEFINITION. One step of the machine: the next turn, an engine turn running the meaning of the command that was
just recognised or is in flight; and a table word placed where the next step fetches it. -/

namespace Sys2Proof.Machine

/-- One step. -/
def step (s : State) : Host.Outcome State Fault Refusal :=
  match takeTurn s with
  | .environment t => .next t
  | .engine t =>
    match fetch t with
    | .run i u => exec i u
    | .stay u => .next u
    | .stop f => .fault f

/-- `s` with the frame of the table word `w` as the next packet the dispatcher polls. -/
def State.withFetchWord (s : State) (nbits w : Nat) : State := placeFrame (tablePacket nbits w) s

end Sys2Proof.Machine
end

