-- ==== Sys2Proof/Safety.lean ====
section
/-! DEFINITION. The terms in which claims are made: which phases serve which command, the invariant of the states a
run reaches, the bus-direction monitor (spec/70_reset_and_hazards.md R233), the events of one byte cycle, replies and
waits, and the end of a run (R245). -/

namespace Sys2Proof.Machine

/-- The phases each command goes through once it is accepted (spec/10_state.md R15, spec/40_commands.md R102, R107):
`READ` never gets past `RD_CHECK`. -/
def Phase.servedBy : Phase → Instr → Bool
  | .idle, _ => false
  | .faulted, _ => false
  | .dispatch, _ => true
  | .ping, i => decide (i = .ping)
  | .session, i => decide (i = .start)
  | .rdCheck, i => decide (i = .read ∨ i = .readm)
  | .rdSetup, i => decide (i = .readm)
  | .rdLoop, i => decide (i = .readm)
  | .rdPost, i => decide (i = .readm)
  | .rdSend, i => decide (i = .readm)
  | .wrSetup, i => decide (i = .write)
  | .wrCheck, i => decide (i = .write)
  | .wrRecv, i => decide (i = .write)
  | .wrLoop, i => decide (i = .write)
  | .wrAck, i => decide (i = .write)
  | .complete, i => decide (i ≠ .read)

/-- The phases after `RD_CHECK` has passed and before `COMPLETE`. -/
def Phase.inRead (p : Phase) : Bool := decide (p ∈ [Phase.rdSetup, .rdLoop, .rdPost, .rdSend])

/-- The phases in which the data lines are set to input by the read in progress (R157 (c)). -/
def Phase.busIn (p : Phase) : Bool := decide (p ∈ [Phase.rdLoop, .rdPost, .rdSend])

/-- The phases of a write after its start is latched and the data lines are set to output (R178 (c)). -/
def Phase.busOut (p : Phase) : Bool := decide (p ∈ [Phase.wrCheck, .wrRecv, .wrLoop, .wrAck])

/-- The phases of a write whose range check has passed (R172). -/
def Phase.inWrite (p : Phase) : Bool := decide (p ∈ [Phase.wrRecv, .wrLoop, .wrAck])

/-- The phases that index the transfer buffer by `i`. -/
def Phase.inLoop (p : Phase) : Bool := decide (p ∈ [Phase.rdLoop, .wrRecv, .wrLoop])

/-- The command slot agrees with the phase: None in `IDLE`, a command that the phase serves from `DISPATCH` to
`COMPLETE`, anything in `FAULTED` (R101, R103, R211). -/
def State.slotAgrees (s : State) : Prop :=
  (s.phase = .idle → s.cmd = none) ∧
  (s.phase ≠ .idle → s.phase ≠ .faulted → ∃ i, s.cmd = some i ∧ s.phase.servedBy i = true)

/-- What holds in every state a run reaches. -/
structure State.Inv (s : State) : Prop where
  /-- R103: the slot agrees with the phase. -/
  slot : s.slotAgrees
  /-- A command in the slot is the one whose frame the frame buffer still holds (R31, R101). -/
  held : ∀ i, s.cmd = some i → decode s.fb = .instr i
  /-- In `IDLE` the frame buffer holds no recognised frame (R101). -/
  pending : s.phase = .idle → decode s.fb = .incomplete ∨ decode s.fb = .notPrefixed
  /-- R19: `fb_len` is in 0..`FRAME_CAP`. -/
  frame : s.fbLen ≤ Config.frameCap
  /-- R22: a reason is recorded exactly in `FAULTED`. -/
  reason : s.phase = .faulted ↔ s.faultReason ≠ none
  /-- R27, R211: the indicator shows the fault pattern exactly in `FAULTED`. -/
  indicator : s.ind = .fault ↔ s.phase = .faulted
  /-- R157 (b), R178 (a), (b): between two steps both enables are inactive. -/
  enables : s.nOE = Level.high ∧ s.nWE = Level.high
  /-- R157 (c). -/
  busIn : s.phase.busIn = true → s.ddir = .input
  /-- R178 (c). -/
  busOut : s.phase.busOut = true → s.ddir = .output ∧ s.start = s.cursor
  /-- R16: the loops' index stays below the block length between two steps. -/
  index : s.phase.inLoop = true → s.i.toNat < 512
  /-- R102, R151: at the read check the mode is the one the command was routed with. -/
  checkMode : s.phase = .rdCheck → (s.mode = .mask ↔ s.cmd = some .readm)
  /-- R151: a read in progress is in mask-ROM mode and in range. -/
  readRange : s.phase.inRead = true → s.mode = .mask ∧ s.start = s.cursor ∧ s.start.toNat + 512 ≤ 32768
  /-- R172: a write past its check is in range. -/
  writeRange : s.phase.inWrite = true → s.start.toNat + 512 ≤ 32768
  /-- R102: a write is in EEPROM mode. -/
  writeMode : s.phase = .wrSetup ∨ s.phase.busOut = true → s.mode = .eeprom

/-- The cursor values reachable from a StartSession: the multiples of 512 from 0 to 32768 (R18). -/
def State.cursorAligned (s : State) : Prop :=
  s.cursor.toNat % 512 = 0 ∧ s.cursor.toNat ≤ 32768

/-- Whether the next turn is a power cycle. -/
def State.powerCycleNext (s : State) : Bool :=
  match s.turns with
  | .powerCycle _ :: _ => true
  | _ => false

/-- Whether the next turn is the engine's. -/
def State.engineNext (s : State) : Bool :=
  match s.turns with
  | [] => true
  | .engine :: _ => true
  | _ => false

/-- The state in which the engine's turn runs: the schedule without that turn. -/
def State.afterTurn (s : State) : State := { s with turns := s.turns.tail }

/-- What the bus-direction hazard is about: the direction and the two enables (R233). -/
structure BusLevels where
  ddir : Direction
  nOE  : Level
  nWE  : Level
  deriving DecidableEq, Repr

/-- The bus levels of a state. -/
def State.busLevels (s : State) : BusLevels := { ddir := s.ddir, nOE := s.nOE, nWE := s.nWE }

/-- The bus levels after one event. -/
def BusLevels.after (b : BusLevels) : Event → BusLevels
  | .ddir d => { b with ddir := d }
  | .oe l => { b with nOE := l }
  | .we l => { b with nWE := l }
  | _ => b

/-- R233: output-enable and write-enable are never active together; `DDIR = OUT` never coincides with `nOE = 0`,
nor `DDIR = IN` with `nWE = 0`. -/
def BusLevels.safe (b : BusLevels) : Bool :=
  (b.nOE || b.nWE) && (b.nOE || decide (b.ddir = .input)) && (b.nWE || decide (b.ddir = .output))

/-- The bus levels are safe before, between and after the events of a list. -/
def BusLevels.safeAlong : BusLevels → List Event → Bool
  | b, [] => b.safe
  | b, e :: es => b.safe && (b.after e).safeAlong es

/-- The bus levels after a list of events. -/
def BusLevels.replay (b : BusLevels) (es : List Event) : BusLevels := es.foldl BusLevels.after b

/-- The line state of an address in a mode, from all lines low; by R134 the levels before do not matter. -/
def linesAt (a : Addr) (mode : Mode) : Lines := driveLines a mode Lines.allLow

/-- The events of one read cycle at address `a` that samples `b` (R153). -/
def readCycleEvents (a : Addr) (b : Byte) : List Event :=
  [.lines (linesAt a .mask), .oe Level.low, .delay .rdSettle, .sample b, .oe Level.high]

/-- The events of one write cycle at address `a` with data `b` (R174). -/
def writeCycleEvents (a : Addr) (b : Byte) : List Event :=
  [.lines (linesAt a .eeprom), .dout b, .we Level.low, .we Level.high, .delay .wrCycle]

/-- The reply of each command in bytes, which a dutiful host waits for (R77, R240). -/
def replyLength : Instr → Nat
  | .ping => 4
  | .start => 0
  | .read => 0
  | .readm => 516
  | .write => 1

/-- The engine turns each command takes from the poll of its frame, with its data waiting: to `IDLE` again, and for
`READ` to `FAULTED`. -/
def commandSteps : Instr → Nat
  | .ping => 4
  | .start => 4
  | .read => 3
  | .readm => 519
  | .write => 1030

/-- One block of a session (spec/70_reset_and_hazards.md R242), as a dutiful host orders it (R241). -/
inductive BlockOp where
  /-- A masked read. -/
  | read
  /-- A write of 512 bytes. -/
  | write (data : Vector Byte Config.block)
  deriving DecidableEq, Repr

/-- The command that moves the block. -/
def BlockOp.command : BlockOp → Instr
  | .read => .readm
  | .write _ => .write

/-- The packets the host sends for the block: the frame, and for a write its 512 bytes in a packet of their own. -/
def BlockOp.packets : BlockOp → List Packet
  | .read => [framePacket .readm]
  | .write data => [framePacket .write, ⟨data[0], data.toList.tail⟩]

/-- The least time that passes in a list of events: the waits' lower bounds (R234, R235, R244). -/
def minElapsed (es : List Event) : Nat :=
  (es.map fun
    | .delay k => Config.delayAtLeast k
    | _ => 0).sum

/-- How many success pulses a list of events holds (R111). -/
def pulses (es : List Event) : Nat := es.count (.ind .pulse)

/-- R245 (a): a successful end. `IDLE`, nothing received, no non-prefix byte held back, and no more from the host. That a
run with a power cycle still in its schedule, `waiting` or not, has not ended is the model's choice: DESIGN CHOICE, log
entry 23. -/
def State.quiescent (s : State) : Bool :=
  decide (s.phase = .idle) && s.rxq.isEmpty && decide (s.fb = [] ∨ s.fb.head? = some framePrefix) &&
  s.turns.all fun
    | .engine => true
    | .hostTake => true
    | .hostSend _ => false
    | .powerCycle _ => false

/-- R245: a hold that is no successful end: a write that waits for its data, or `IDLE` with a non-prefix frame
buffer. -/
def State.heldUp (s : State) : Bool :=
  s.rxq.isEmpty && (decide (s.phase = .wrRecv) ||
    (decide (s.phase = .idle) && !s.fb.isEmpty && decide (s.fb.head? ≠ some framePrefix)))

end Sys2Proof.Machine
end

