-- ==== Sys2Proof/Certificates/Slice0/Obligations.lean ====
section
/-! DEFINITION. The statements about the machine, for the provers. Each docstring names the rules of spec/ it rests
on and, where a clause is the spec's own choice (a D or G entry) or the model's, the entry. -/

open Sys2Proof Sys2Proof.Machine

/-! ### Encoding -/

/-- R70, R72: each of the five rows, the code, the frame bytes, the 16-bit pattern and the command; no other 16-bit pattern
decodes, and only bytes 0 and 1 are needed. -/
def Obligations.FiveFramesDecode : Prop :=
  ∀ rest : List Byte,
    (encode .ping = [0x42#8, 0x01#8] ∧ encodeWord .ping = 0x4201#16 ∧ decodeTableWord 16 0x4201 = some .ping ∧
      decode (0x42#8 :: 0x01#8 :: rest) = .instr .ping) ∧
    (encode .start = [0x42#8, 0x02#8] ∧ encodeWord .start = 0x4202#16 ∧ decodeTableWord 16 0x4202 = some .start ∧
      decode (0x42#8 :: 0x02#8 :: rest) = .instr .start) ∧
    (encode .read = [0x42#8, 0x03#8] ∧ encodeWord .read = 0x4203#16 ∧ decodeTableWord 16 0x4203 = some .read ∧
      decode (0x42#8 :: 0x03#8 :: rest) = .instr .read) ∧
    (encode .readm = [0x42#8, 0x04#8] ∧ encodeWord .readm = 0x4204#16 ∧ decodeTableWord 16 0x4204 = some .readm ∧
      decode (0x42#8 :: 0x04#8 :: rest) = .instr .readm) ∧
    (encode .write = [0x42#8, 0x05#8] ∧ encodeWord .write = 0x4205#16 ∧ decodeTableWord 16 0x4205 = some .write ∧
      decode (0x42#8 :: 0x05#8 :: rest) = .instr .write) ∧
    (∀ (w : BitVec 16) (i : Instr), decodeTableWord 16 w.toNat = some i → w = encodeWord i)

/-- R72, R75: decoding the frame of a well-formed command, whatever reserved bytes follow, gives the command back; and
a frame buffer decodes to a command only if it is that command's frame followed by reserved bytes. -/
def Obligations.DecodeAndEncodeAgree : Prop :=
  (∀ (i : Instr) (rest : List Byte), i.wf = true → decode (encode i ++ rest) = .instr i) ∧
  (∀ (i : Instr) (bytes : List Byte), decode bytes = .instr i → ∃ rest, bytes = encode i ++ rest)

/-- R70, R73, R74: every other contents of the frame buffer is sorted as the rules say: too short, not prefixed, or
a recognised frame with an illegal code, 0x00 or 0x06..0xFF. Recognition of a one-byte frame is D5. -/
def Obligations.OtherFramesAreSorted : Prop :=
  ∀ bytes : List Byte,
    (decode bytes = .incomplete ↔ bytes.length < 2) ∧
    (decode bytes = .notPrefixed ↔ ∃ b0 b1 rest, bytes = b0 :: b1 :: rest ∧ b0 ≠ 0x42#8) ∧
    (∀ code : Byte, decode bytes = .badCommand code ↔
      ∃ rest, bytes = 0x42#8 :: code :: rest ∧ (code.toNat = 0 ∨ 6 ≤ code.toNat))

/-- R79: a host line sends a packet exactly when it is well formed, and the packet has the bytes the line lists, or
the 2-byte frame of R72. The syntax is the spec's own, D30. -/
def Obligations.HostLinesSendTheirBytes : Prop :=
  ∀ l : HostLine,
    (l.packet.isSome = l.wf) ∧
    (∀ p, l.packet = some p → p.bytes = match l with
      | .command i => encode i
      | .data bytes => bytes
      | .data512 bytes => bytes
      | .raw bytes => bytes)

/-! ### The engine's turn: poll, recognise, run -/

/-- R100, R101, R103: the engine's turn runs the decoded command. Idle, with a head packet that fits and a frame buffer
that then decodes to a well-formed command, the step is that command's meaning in the state with the packet taken into
the buffer (the packet model is D2); from `DISPATCH` to `COMPLETE` it is the meaning of the command in the slot. -/
def Obligations.StepRunsTheCommand : Prop :=
  (∀ (s : State) (p : Packet) (ps : List Packet) (i : Instr),
    s.engineNext = true → s.phase = .idle → s.cmd = none → s.rxq = p :: ps →
    s.fbLen + p.bytes.length ≤ Config.frameCap → decode (s.fb ++ p.bytes) = .instr i → i.wf = true →
    step s = exec i { s with
      turns := s.turns.tail, rxq := ps, fb := s.fb ++ p.bytes, evt := s.evt ++ [.rx p.bytes] }) ∧
  (∀ (s : State) (i : Instr),
    s.engineNext = true → s.phase ≠ .idle → s.phase ≠ .faulted → s.cmd = some i →
    step s = exec i { s with turns := s.turns.tail })

/-- R101: the command is put into the slot and the phase becomes `DISPATCH`, for each of the five commands. -/
def Obligations.RecognitionFillsSlot : Prop :=
  ∀ (s : State) (i : Instr), s.phase = .idle →
    exec i s = .next { s with cmd := some i, phase := .dispatch }

/-- R100, R173, R245: with an empty receive queue the idle engine and a write that waits for its data hold; with only
engine turns they hold for ever, with no fault, no event and no reply, and the waiting write is no successful end. That
a holding turn changes nothing is log entry 1. -/
def Obligations.HoldsUntilTheHostSends : Prop :=
  ∀ s : State, s.rxq = [] → s.phase = .idle ∨ (s.phase = .wrRecv ∧ s.cmd = some .write) →
    (s.engineNext = true → step s = .next { s with turns := s.turns.tail }) ∧
    (s.turns = [] → ∀ n : Nat, Host.Core.run core n s = .next s) ∧
    (s.phase = .wrRecv → s.heldUp = true ∧ s.quiescent = false)

/-- R100, R215: a packet that overflows the frame buffer faults with `FRAME_OVERFLOW`, whatever it holds; it has been
taken, and the frame buffer is as before. -/
def Obligations.OverflowingPacketFaults : Prop :=
  ∀ (s : State) (p : Packet) (ps : List Packet),
    s.engineNext = true → s.phase = .idle → s.rxq = p :: ps → Config.frameCap < s.fbLen + p.bytes.length →
    step s = .next { s with
      turns := s.turns.tail, rxq := ps, faultReason := some .frameOverflow, ind := .fault, phase := .faulted,
      evt := s.evt ++ [.rx p.bytes, .ind .fault, .fault .frameOverflow] }

/-- R73, R101, R110: a recognised frame with an illegal code faults with `BAD_COMMAND`; the slot stays None and
nothing is sent. -/
def Obligations.IllegalCodeFaults : Prop :=
  ∀ (s : State) (p : Packet) (ps : List Packet) (code : Byte) (rest : List Byte),
    s.engineNext = true → s.phase = .idle → s.cmd = none → s.rxq = p :: ps →
    s.fbLen + p.bytes.length ≤ Config.frameCap → s.fb ++ p.bytes = 0x42#8 :: code :: rest →
    (code.toNat = 0 ∨ 6 ≤ code.toNat) →
    step s = .next { s with
      turns := s.turns.tail, rxq := ps, fb := s.fb ++ p.bytes, faultReason := some .badCommand, ind := .fault,
      phase := .faulted, evt := s.evt ++ [.rx p.bytes, .ind .fault, .fault .badCommand] }

/-- R74, R101, D4, D5: a frame buffer that is too short or does not begin with the prefix keeps its bytes, and the
engine stays idle without a reply. -/
def Obligations.UnrecognisedBytesStay : Prop :=
  ∀ (s : State) (p : Packet) (ps : List Packet),
    s.engineNext = true → s.phase = .idle → s.cmd = none → s.rxq = p :: ps →
    s.fbLen + p.bytes.length ≤ Config.frameCap →
    ((s.fb ++ p.bytes).length < 2 ∨ ∃ b0 rest, s.fb ++ p.bytes = b0 :: rest ∧ b0 ≠ 0x42#8) →
    step s = .next { s with
      turns := s.turns.tail, rxq := ps, fb := s.fb ++ p.bytes, evt := s.evt ++ [.rx p.bytes] }

/-- R52, R53, R58: a `HOST` turn, in any phase, appends its packet at the tail of `RXQ` or removes the head byte of
`TXQ`, and touches nothing else of the block. That a removal turn on an empty `TXQ` changes nothing is log entry 24. -/
def Obligations.HostTurnsTouchOnlyTheQueues : Prop :=
  (∀ (s : State) (p : Packet) (ts : List Turn), s.turns = .hostSend p :: ts →
    step s = .next { s with turns := ts, rxq := s.rxq ++ [p] }) ∧
  (∀ (s : State) (b : Byte) (bs : List Byte) (ts : List Turn), s.turns = .hostTake :: ts → s.txq = b :: bs →
    step s = .next { s with turns := ts, txq := bs }) ∧
  (∀ (s : State) (ts : List Turn), s.turns = .hostTake :: ts → s.txq = [] →
    step s = .next { s with turns := ts })

/-! ### The five commands, phase by phase -/

/-- R102: the dispatch table, one step with no event: each command's phase and mode. -/
def Obligations.DispatchRoutesEachCommand : Prop :=
  ∀ s : State, s.phase = .dispatch →
    exec .ping s = .next { s with phase := .ping } ∧
    exec .start s = .next { s with phase := .session } ∧
    exec .read s = .next { s with mode := .eeprom, phase := .rdCheck } ∧
    exec .readm s = .next { s with mode := .mask, phase := .rdCheck } ∧
    exec .write s = .next { s with mode := .eeprom, phase := .wrSetup }

/-- R105: "PONG" is sent, one pulse, no other state changes. The pulse is D18, the ASCII codes G2 (log
entry 21). -/
def Obligations.PingSendsPong : Prop :=
  ∀ s : State, s.phase = .ping →
    exec .ping s = .next { s with
      txq := s.txq ++ [0x50#8, 0x4F#8, 0x4E#8, 0x47#8], phase := .complete,
      evt := s.evt ++ [.tx 0x50#8, .tx 0x4F#8, .tx 0x4E#8, .tx 0x47#8, .ind .pulse] }

/-- R106: the cursor becomes 0 from any value, one pulse, no reply. That there is no bus event is D33. -/
def Obligations.StartResetsCursor : Prop :=
  ∀ s : State, s.phase = .session →
    exec .start s = .next { s with cursor := 0x0000#16, phase := .complete, evt := s.evt ++ [.ind .pulse] }

/-- R107, R151, R211: the unmasked read latches its start and faults, with `RANGE_READ` past the bound and `MODE`
otherwise, without any bus event. The order of the checks is D7, the bound D6. -/
def Obligations.ReadAlwaysFaults : Prop :=
  ∀ s : State, s.phase = .rdCheck → s.mode = .eeprom →
    (s.cursor.toNat + 512 > 32768 →
      exec .read s = .next { s with
        start := s.cursor, faultReason := some .rangeRead, ind := .fault, phase := .faulted,
        evt := s.evt ++ [.ind .fault, .fault .rangeRead] }) ∧
    (s.cursor.toNat + 512 ≤ 32768 →
      exec .read s = .next { s with
        start := s.cursor, faultReason := some .mode, ind := .fault, phase := .faulted,
        evt := s.evt ++ [.ind .fault, .fault .mode] })

/-- R108, R151: the masked read passes its check when the block is in range and faults with `RANGE_READ` when it is
not, without any bus event. The bound is D6. -/
def Obligations.MaskedReadChecksRange : Prop :=
  ∀ s : State, s.phase = .rdCheck → s.mode = .mask →
    (s.cursor.toNat + 512 ≤ 32768 →
      exec .readm s = .next { s with start := s.cursor, phase := .rdSetup }) ∧
    (s.cursor.toNat + 512 > 32768 →
      exec .readm s = .next { s with
        start := s.cursor, faultReason := some .rangeRead, ind := .fault, phase := .faulted,
        evt := s.evt ++ [.ind .fault, .fault .rangeRead] })

/-- R152: data lines to input, output-enable inactive, the pre-loop delay; `nWE` is not touched. -/
def Obligations.ReadSetupConfiguresBus : Prop :=
  ∀ s : State, s.phase = .rdSetup →
    exec .readm s = .next { s with
      ddir := .input, nOE := Level.high, i := 0#10, phase := .rdLoop,
      evt := s.evt ++ [.ddir .input, .oe Level.high, .delay .rdPre] }

/-- R153: one read cycle, at every index below 512: the address is driven in mask-ROM mode, output-enable goes
active, the settle delay passes, the target's byte is sampled and stored, output-enable is inactive again; the last
index ends the loop. While the data lines are inputs the target sees nothing of `DOUT` (R24, D31). The target's answer is
the free value of log entry 11. -/
def Obligations.ReadCycleStoresTheSample : Prop :=
  ∀ (s : State) (h : s.i.toNat < 512), s.phase = .rdLoop →
    let l := driveLines (s.start + s.i.setWidth 16) .mask s.lines
    let before := s.evt ++ [.lines l, .oe Level.low, .delay .rdSettle]
    let b := Config.targetSample (before.filter Event.onBus)
      { lines := l, ddir := s.ddir, data := if s.ddir = .input then none else some s.dout, nOE := Level.low, nWE := s.nWE }
    exec .readm s = .next { s with
      lines := l, nOE := Level.high, xb := s.xb.set s.i.toNat b h, i := s.i + 1#10,
      phase := if s.i.toNat = 511 then .rdPost else .rdLoop,
      evt := before ++ [.sample b, .oe Level.high] }

/-- R154, R155: the post-loop delay; then the 512 data bytes and the trailer are sent, least-significant byte first,
the cursor advances by 512, one pulse. The delay's place is D24, the advance's D10, the pulse D18. No value of `crc`
survives (R21, R195): what it holds then is the free value of log entry 14. -/
def Obligations.ReadSendsBlockAndTrailer : Prop :=
  ∀ s : State,
    (s.phase = .rdPost →
      exec .readm s = .next { s with phase := .rdSend, evt := s.evt ++ [.delay .rdPost] }) ∧
    (s.phase = .rdSend →
      let c := crc32 s.xb.toList 512
      let reply := s.xb.toList ++
        [c.extractLsb' 0 8, c.extractLsb' 8 8, c.extractLsb' 16 8, c.extractLsb' 24 8]
      exec .readm s = .next { s with
        txq := s.txq ++ reply, crc := Config.crcLeft s.draws, draws := s.draws + 1, cursor := s.cursor + 512#16,
        phase := .complete,
        evt := s.evt ++ reply.map .tx ++ [.ind .pulse] })

/-- R171: the start is latched, the data lines become outputs and both enables are forced inactive, in that order. -/
def Obligations.WriteSetupConfiguresBus : Prop :=
  ∀ s : State, s.phase = .wrSetup →
    exec .write s = .next { s with
      start := s.cursor, ddir := .output, nOE := Level.high, nWE := Level.high, phase := .wrCheck,
      evt := s.evt ++ [.ddir .output, .oe Level.high, .we Level.high] }

/-- R172: the range check of a write; a faulting one leaves the bus as the set-up step configured it. -/
def Obligations.WriteChecksRange : Prop :=
  ∀ s : State, s.phase = .wrCheck →
    (s.start.toNat + 512 ≤ 32768 → exec .write s = .next { s with i := 0#10, phase := .wrRecv }) ∧
    (s.start.toNat + 512 > 32768 →
      exec .write s = .next { s with
        faultReason := some .rangeWrite, ind := .fault, phase := .faulted,
        evt := s.evt ++ [.ind .fault, .fault .rangeWrite] })

/-- R173: one host byte is taken and stored, at every index below 512, the 512th ending the receive; with an empty
queue the engine holds (log entry 1). Bytes after the 512th stay in the queue, D17. -/
def Obligations.WriteTakesOneByte : Prop :=
  ∀ s : State, s.phase = .wrRecv →
    (s.rxq = [] → exec .write s = .next s) ∧
    (∀ (p : Packet) (ps : List Packet) (h : s.i.toNat < 512), s.rxq = p :: ps →
      exec .write s = .next { s with
        rxq := (match p.rest with
          | [] => ps
          | b :: bs => ⟨b, bs⟩ :: ps)
        xb := s.xb.set s.i.toNat p.first h
        i := if s.i.toNat = 511 then 0#10 else s.i + 1#10
        phase := if s.i.toNat = 511 then .wrLoop else .wrRecv
        evt := s.evt ++ [.rx [p.first]] })

/-- R174: one write cycle in EEPROM mode, at every index below 512: address and data are driven, then the strobe, then
the write-cycle delay, the last byte's included; the last index ends the loop. The strobe's polarity is D8. U2: a write
cycle in mask-ROM mode, which no run reaches, is given no meaning and is refused by name (log entry 16). -/
def Obligations.WriteCycleStrobesOneByte : Prop :=
  (∀ (s : State) (h : s.i.toNat < 512), s.phase = .wrLoop → s.mode = .eeprom →
    let l := driveLines (s.start + s.i.setWidth 16) .eeprom s.lines
    exec .write s = .next { s with
      lines := l, dout := s.xb[s.i.toNat], nWE := Level.high, i := s.i + 1#10,
      phase := if s.i.toNat = 511 then .wrAck else .wrLoop,
      evt := s.evt ++
        [.lines l, .dout s.xb[s.i.toNat], .we Level.low, .we Level.high, .delay .wrCycle] }) ∧
  (∀ s : State, s.phase = .wrLoop → s.mode = .mask → exec .write s = .refused .maskModeWrite)

/-- R175: the acknowledgment byte 0x42, the cursor advance, one pulse. The advance's place is D10. -/
def Obligations.WriteAcknowledges : Prop :=
  ∀ s : State, s.phase = .wrAck →
    exec .write s = .next { s with
      txq := s.txq ++ [0x42#8], cursor := s.cursor + 512#16, phase := .complete,
      evt := s.evt ++ [.tx 0x42#8, .ind .pulse] }

/-- R104: the completion step, for each command, empties the slot and the frame buffer unconditionally and makes the
engine idle; `COMPLETE` is reached only from the last step of a handler that finishes normally, and a fault never
reaches it. -/
def Obligations.CompletionClearsSlotAndFrame : Prop :=
  (∀ (s : State) (i : Instr), s.phase = .complete →
    exec i s = .next { s with cmd := none, fb := [], phase := .idle }) ∧
  (∀ (s t : State) (i : Instr), exec i s = .next t → t.phase = .complete →
    (s.phase = .ping ∨ s.phase = .session ∨ s.phase = .rdSend ∨ s.phase = .wrAck) ∧ t.faultReason = s.faultReason) ∧
  (∀ (r : FaultReason) (s : State), (raise r s).phase ≠ .complete)

/-- R20, R153, R173: at an index at or beyond 512, which no run reaches, a store into the transfer buffer faults with
`XBUF_OVERFLOW` and the buffer is as before, output-enable being inactive again; for the write cycle, which strobes
nothing then, this is log entry 15. -/
def Obligations.IndexBeyondBufferFaults : Prop :=
  ∀ s : State, 512 ≤ s.i.toNat →
    (s.phase = .rdLoop → ∃ t, exec .readm s = .next t ∧ t.phase = .faulted ∧ t.faultReason = some .xbufOverflow ∧
      t.xb = s.xb ∧ t.nOE = Level.high ∧ t.i = s.i) ∧
    (s.phase = .wrRecv → s.rxq ≠ [] → ∃ t, exec .write s = .next t ∧ t.phase = .faulted ∧
      t.faultReason = some .xbufOverflow ∧ t.xb = s.xb ∧ t.i = s.i) ∧
    (s.phase = .wrLoop → s.mode = .eeprom → ∃ t, exec .write s = .next t ∧ t.phase = .faulted ∧
      t.faultReason = some .xbufOverflow ∧ t.xb = s.xb ∧ t.nWE = s.nWE ∧ t.dout = s.dout)

/-- R234, R235, R244: in a read cycle at least `T_RD_SETTLE` passes between output-enable active and the sample, with no
address change between the drive and the sample; in a write cycle at least `T_WR_CYCLE` passes after the strobe, with no
drive, data or strobe event, before the step ends. The delays are the free values of log entry 10. -/
def Obligations.SettleAndWriteCycleWaits : Prop :=
  (∀ s t : State, s.phase = .rdLoop → exec .readm s = .next t →
    ∃ l b mid fin, t.evt = s.evt ++ [.lines l, .oe Level.low] ++ mid ++ [.sample b, .oe Level.high] ++ fin ∧
      Config.delayAtLeast .rdSettle ≤ minElapsed mid ∧ (∀ l', Event.lines l' ∉ mid)) ∧
  (∀ s t : State, s.phase = .wrLoop → exec .write s = .next t → t.phase ≠ .faulted →
    ∃ l b mid, t.evt = s.evt ++ [.lines l, .dout b, .we Level.low, .we Level.high] ++ mid ∧
      Config.delayAtLeast .wrCycle ≤ minElapsed mid ∧
      (∀ e ∈ mid, ∃ k, e = .delay k))

/-! ### Faults and reset -/

/-- R211: fault entry writes the reason, the indicator and the phase, records its two events, and leaves every other
piece of state as it was. -/
def Obligations.FaultEntryKeepsTheRest : Prop :=
  ∀ (r : FaultReason) (s : State),
    raise r s = { s with
      faultReason := some r, ind := .fault, phase := .faulted, evt := s.evt ++ [.ind .fault, .fault r] }

/-- R210, R245: in `FAULTED` the engine has no step and no successful end. That the model's engine turn there, and the meaning
of every command there, is the fault outcome `halted` is log entry 2. -/
def Obligations.FaultedHasNoStep : Prop :=
  ∀ s : State, s.phase = .faulted →
    (s.engineNext = true → step s = .fault (.halted s.faultReason)) ∧
    (∀ i : Instr, exec i s = .fault (.halted s.faultReason)) ∧
    s.quiescent = false

/-- R213, R214, R230: a step from `FAULTED` leaves it only by a power cycle; otherwise everything of the block but the two
queues that the host may touch stays as it is, and no event is recorded. A power cycle from any phase gives the values of
R40 and R231 (D19, D11). The model's own in it: the draw number of the cursor (log entry 5), the values named for what R40
leaves unspecified, which the equation with `State.boot` holds (log entry 12), and the waiting packets, the trace and the
schedule going on (log entry 18). -/
def Obligations.OnlyPowerCycleLeavesFaulted : Prop :=
  (∀ s t : State, s.phase = .faulted → step s = .next t →
    (∃ waiting ts, s.turns = .powerCycle waiting :: ts ∧ t = State.boot (s.draws + 1) waiting s.evt ts) ∨
    (∃ rxq txq, t = { s with turns := s.turns.tail, rxq := rxq, txq := txq } ∧ s.rxq <+: rxq ∧ txq <:+ s.txq)) ∧
  (∀ (s : State) (waiting : List Packet) (ts : List Turn), s.turns = .powerCycle waiting :: ts →
    ∃ t, step s = .next t ∧
      t.phase = .idle ∧ slotCode t.cmd = 0#3 ∧ t.fbLen = 0 ∧ t.cursor = Config.cursorAtReset (s.draws + 1) ∧
      t.faultReason = none ∧ t.nOE = Level.high ∧ t.nWE = Level.high ∧ t.ind = .solid ∧ t.txq = [] ∧
      t.rxq = waiting ∧ t.evt = s.evt ∧ t.turns = ts)

/-- R40, R231: the values the spec gives for reset; the boot premise is D19, the cursor the open parameter D11. (The
values of log entry 12 are not stated here.) -/
def Obligations.ResetValues : Prop :=
  State.reset.phase = .idle ∧ slotCode State.reset.cmd = 0#3 ∧ State.reset.fbLen = 0 ∧
  State.reset.cursor = Config.cursorAtReset 0 ∧ State.reset.faultReason = none ∧
  State.reset.nOE = Level.high ∧ State.reset.nWE = Level.high ∧ State.reset.ind = .solid ∧ State.reset.txq = []

/-- R7: every open parameter lies in its allowed range (D3, D12, D16, D27), and a power cycle draws the cursor anew (D11);
that it is drawn with the model's own counter `draws`, which then steps, is log entry 5. -/
def Obligations.ParametersInRange : Prop :=
  2 ≤ Config.frameCap ∧
  (Function.Bijective Config.addrPerm ∧ ∃ k, Config.addrPerm k ≠ k) ∧
  (∃ n, Config.pageSize = 2 ^ n) ∧ 1 ≤ Config.pageSize ∧ Config.pageSize ≤ 512 ∧
  (∀ k, 0 < Config.delayAtLeast k) ∧
  (∀ (s : State) (waiting : List Packet) (ts : List Turn), s.turns = .powerCycle waiting :: ts →
    ∃ t, step s = .next t ∧ t.cursor = Config.cursorAtReset (s.draws + 1) ∧ t.draws = s.draws + 1)

/-! ### Invariants -/

/-- The state after reset meets the invariant. -/
def Obligations.ResetMeetsInvariant : Prop := State.reset.Inv

/-- Every step, of the engine, the host or a power cycle, keeps the invariant: the command slot agrees with the phase,
the frame buffer stays within `FRAME_CAP`, a reason is recorded exactly in `FAULTED`, both enables are inactive between
steps, the direction, the index, the mode and the range stay as the phase needs them. -/
def Obligations.EveryStepKeepsInvariant : Prop :=
  ∀ s t : State, s.Inv → step s = .next t → t.Inv

/-- R210, R245: from every state that meets the invariant, a step answers a next state, unless the block has faulted; no
step is ever refused, and no engine turn finds the slot empty. That a holding engine's turn is a next state is log entry 1,
that a faulted engine's turn is the fault `halted` is log entry 2. -/
def Obligations.OnlyFaultedStops : Prop :=
  ∀ s : State, s.Inv →
    (s.phase ≠ .faulted → ∃ t, step s = .next t) ∧
    (s.phase = .faulted → (∃ t, step s = .next t) ∨ step s = .fault (.halted s.faultReason))

/-- R18, R55, R106: a cursor that is a multiple of 512 and at most 32768 stays so in every step but a power cycle, and
StartSession makes it so from any value. -/
def Obligations.CursorStaysAligned : Prop :=
  (∀ s t : State, s.Inv → s.cursorAligned → s.powerCycleNext = false → step s = .next t → t.cursorAligned) ∧
  (∀ s t : State, s.phase = .session → exec .start s = .next t → t.cursorAligned)

/-- R233: in every engine step from a state that meets the invariant, the levels of the direction and the two enables
are safe before, between and after the step's events, and the events account for the levels the step leaves. -/
def Obligations.BusIsSafeAlongEveryStep : Prop :=
  ∀ s t : State, s.Inv → s.engineNext = true → step s = .next t →
    ∃ es, t.evt = s.evt ++ es ∧ s.busLevels.safeAlong es = true ∧ s.busLevels.replay es = t.busLevels

/-! ### Whole-machine rules -/

/-- R18, R211: only `SESSION`, `RD_SEND` and `WR_ACK` write the cursor, and a faulting step leaves it unchanged. -/
def Obligations.CursorWriters : Prop :=
  ∀ s t : State, s.powerCycleNext = false → step s = .next t → t.cursor ≠ s.cursor →
    s.engineNext = true ∧ (s.phase = .session ∨ s.phase = .rdSend ∨ s.phase = .wrAck) ∧ t.phase = .complete

/-- R52, R53, R236: an engine step takes from `RXQ` only in `IDLE` (R100) and `WR_RECV` (R173), and sends on `TXQ` only in
`PING` (R105), `RD_SEND` (R155) and `WR_ACK` (R175), not in `SESSION` (R106); it never takes a byte back from `TXQ`. -/
def Obligations.QueueUse : Prop :=
  ∀ s t : State, s.engineNext = true → step s = .next t →
    (t.rxq ≠ s.rxq → s.phase = .idle ∨ s.phase = .wrRecv) ∧
    (t.txq ≠ s.txq → s.phase = .ping ∨ s.phase = .rdSend ∨ s.phase = .wrAck) ∧
    s.txq <+: t.txq

/-- R103, R104: an engine step enters `IDLE` from another phase only from `COMPLETE`, and leaves the slot empty; the slot
changes only in `IDLE`, and in `COMPLETE` to None, so a command enters it only in `IDLE`. -/
def Obligations.OneCommandInFlight : Prop :=
  ∀ s t : State, s.engineNext = true → step s = .next t →
    (t.phase = .idle → s.phase ≠ .idle → s.phase = .complete ∧ t.cmd = none) ∧
    (t.cmd ≠ s.cmd → s.phase = .idle ∨ (s.phase = .complete ∧ t.cmd = none))

/-- R111, D18: an engine step records a success pulse exactly when it enters `COMPLETE`, one and as its last event; a
step that faults records `EV_IND(FAULT)` and `EV_FAULT` as its last two and no pulse. -/
def Obligations.OnePulsePerCommand : Prop :=
  ∀ s t : State, s.engineNext = true → step s = .next t →
    ∃ es, t.evt = s.evt ++ es ∧
      (t.phase = .complete → pulses es = 1 ∧ es.getLast? = some (.ind .pulse)) ∧
      (t.phase ≠ .complete → pulses es = 0) ∧
      (t.phase = .faulted → ∃ r, t.faultReason = some r ∧ [.ind .fault, .fault r] <:+ es)

/-- R77, R240: in the phases a command goes through, it sends its whole reply in the step that completes it, 4, 0, 516
or 1 bytes, and nothing in any other step; the unmasked read, which never completes, sends nothing. -/
def Obligations.RepliesHaveTheirLength : Prop :=
  ∀ (k : Instr) (s t : State), s.phase = .idle ∨ s.phase.servedBy k = true → exec k s = .next t →
    t.txq.length = s.txq.length + (if t.phase = .complete then replyLength k else 0)

/-! ### Frames -/

/-- R20, R62, R63: the transfer buffer keeps every byte but the one at index `i`, and that one changes only in
`RD_LOOP` and `WR_RECV`. -/
def Obligations.TransferBufferFrame : Prop :=
  ∀ (k : Instr) (s t : State), exec k s = .next t →
    ∀ (j : Nat) (h : j < 512), (s.phase = .rdLoop ∨ s.phase = .wrRecv → j ≠ s.i.toNat) → t.xb[j] = s.xb[j]

/-- R105, R106: frame of `PING` and `START` in the phases they go through: every register, the transfer buffer, the bus
lines, the receive queue and the exception register are unchanged; the slot and the frame buffer change only by
acceptance and completion; `START` alone writes the cursor and sends nothing. -/
def Obligations.PingAndStartFrame : Prop :=
  ∀ (k : Instr) (s t : State), k = .ping ∨ k = .start → s.phase = .idle ∨ s.phase.servedBy k = true →
    exec k s = .next t →
      t.i = s.i ∧ t.start = s.start ∧ t.mode = s.mode ∧ t.xb = s.xb ∧ t.crc = s.crc ∧ t.lines = s.lines ∧
      t.ddir = s.ddir ∧ t.dout = s.dout ∧ t.nOE = s.nOE ∧ t.nWE = s.nWE ∧ t.ind = s.ind ∧
      t.faultReason = s.faultReason ∧ t.rxq = s.rxq ∧ t.turns = s.turns ∧ t.draws = s.draws ∧
      (s.phase ≠ .complete → t.fb = s.fb) ∧ (s.phase ≠ .idle → s.phase ≠ .complete → t.cmd = s.cmd) ∧
      (k = .ping → t.cursor = s.cursor) ∧ (k = .start → t.txq = s.txq)

/-- R107, R108, R157 (a): frame of the two reads in the phases they go through: `nWE`, `DOUT`, the receive queue and the
schedule `turns` are unchanged; the address lines change only in `RD_LOOP`, the cursor and the transmit queue only in
`RD_SEND`, the direction only in `RD_SETUP`, the mode only in `DISPATCH`, the start only in `RD_CHECK`, the exception
register and the indicator only on a fault; `crc` and the model's own counter `draws`, which the free value of `crc` is
drawn with, change only in `RD_SEND` (log entry 14). -/
def Obligations.ReadsFrame : Prop :=
  ∀ (k : Instr) (s t : State), k = .read ∨ k = .readm → s.phase = .idle ∨ s.phase.servedBy k = true →
    exec k s = .next t →
      t.nWE = s.nWE ∧ t.dout = s.dout ∧ t.rxq = s.rxq ∧ t.turns = s.turns ∧
      (s.phase ≠ .rdLoop → t.lines = s.lines) ∧
      (s.phase ≠ .rdSend → t.cursor = s.cursor ∧ t.crc = s.crc ∧ t.draws = s.draws ∧ t.txq = s.txq) ∧
      (s.phase ≠ .rdSetup → t.ddir = s.ddir) ∧
      (s.phase ≠ .rdSetup → s.phase ≠ .rdLoop → t.nOE = s.nOE ∧ t.i = s.i) ∧
      (s.phase ≠ .dispatch → t.mode = s.mode) ∧ (s.phase ≠ .rdCheck → t.start = s.start) ∧
      (t.phase ≠ .faulted → t.faultReason = s.faultReason ∧ t.ind = s.ind) ∧
      (s.phase ≠ .complete → t.fb = s.fb) ∧ (s.phase ≠ .idle → s.phase ≠ .complete → t.cmd = s.cmd)

/-- R109, R178: frame of `WRITE` in the phases it goes through: `crc` and the model's own fields are unchanged; the
address lines and `DOUT` change only in `WR_LOOP`, the cursor and the transmit queue only in `WR_ACK`, the receive queue
only in `WR_RECV`, direction, output-enable and start only in `WR_SETUP`, the mode only in `DISPATCH`, the exception
register and the indicator only on a fault. -/
def Obligations.WriteFrame : Prop :=
  ∀ s t : State, s.phase = .idle ∨ s.phase.servedBy .write = true → exec .write s = .next t →
    t.crc = s.crc ∧ t.turns = s.turns ∧ t.draws = s.draws ∧
    (s.phase ≠ .wrLoop → t.lines = s.lines ∧ t.dout = s.dout) ∧
    (s.phase ≠ .wrAck → t.cursor = s.cursor ∧ t.txq = s.txq) ∧
    (s.phase ≠ .wrRecv → t.rxq = s.rxq) ∧
    (s.phase ≠ .wrSetup → t.ddir = s.ddir ∧ t.nOE = s.nOE ∧ t.start = s.start) ∧
    (s.phase ≠ .wrSetup → s.phase ≠ .wrLoop → t.nWE = s.nWE) ∧
    (s.phase ≠ .wrCheck → s.phase ≠ .wrRecv → s.phase ≠ .wrLoop → t.i = s.i) ∧
    (s.phase ≠ .dispatch → t.mode = s.mode) ∧
    (t.phase ≠ .faulted → t.faultReason = s.faultReason ∧ t.ind = s.ind) ∧
    (s.phase ≠ .complete → t.fb = s.fb) ∧ (s.phase ≠ .idle → s.phase ≠ .complete → t.cmd = s.cmd)

/-! ### The address bus driver -/

/-- R131, R132, R136: every line of a row of the table carries that row's logical bit, and every line in no row carries
its undriven level. Levels and bit order are D14, D15, the undriven levels D13. -/
def Obligations.DriverFollowsTheTable : Prop :=
  ∀ (a : Addr) (m : Mode) (old : Lines),
    (∀ row ∈ bitAssignment m, ∀ line ∈ row.2, (driveLines a m old).level line = a.getLsbD row.1) ∧
    (∀ line : Line, (∀ row ∈ bitAssignment m, line ∉ row.2) →
      (driveLines a m old).level line = Config.undrivenLvl line m)

/-- R134, R135: the lines `Drive(a, mode)` leaves do not depend on the lines' earlier levels, and within one mode no two
distinct addresses below `BOUND` give the same line state. -/
def Obligations.DriverIsPureAndInjective : Prop :=
  (∀ (a : Addr) (m : Mode) (old old' : Lines), driveLines a m old = driveLines a m old') ∧
  (∀ (a b : Addr) (m : Mode) (old old' : Lines), a.toNat < Config.bound → b.toNat < Config.bound →
    driveLines a m old = driveLines b m old' → a = b)

/-- R176: `PageBase(a)` is `a` with the bits below `PAGE_SIZE` cleared, that is, `a` rounded down to a multiple of
`PAGE_SIZE`. -/
def Obligations.PageBaseRoundsDown : Prop :=
  ∀ a : Addr,
    pageBase a = a &&& ~~~ BitVec.ofNat 16 (Config.pageSize - 1) ∧
    (pageBase a).toNat ≤ a.toNat ∧ a.toNat < (pageBase a).toNat + Config.pageSize ∧
    (pageBase a).toNat % Config.pageSize = 0

/-! ### The checksum engine -/

/-- R190, R191, R192, R193: corner values of the bit step, the byte step's example, and the checksums of the empty buffer and
of the one byte 0xFF. The bit order is G1 (log entry 21). -/
def Obligations.ChecksumStepValues : Prop :=
  crcBit 0#32 = 0#32 ∧ crcBit 1#32 = 0xEDB88320#32 ∧ crcBit 0x80000000#32 = 0x40000000#32 ∧
  crcBit 0xFFFFFFFF#32 = 0x92477CDF#32 ∧ crcByte 0xFFFFFFFF#32 0x00#8 = 0x2DFD1072#32 ∧
  crc32 [] 0 = 0#32 ∧ crc32 [0xFF#8] 1 = 0xFF000000#32

/-- R194: the trailer is the 4 bytes of the checksum, least-significant byte first, from which the checksum can be put
together again; the read sends it right after the 512 data bytes; the rule's example. -/
def Obligations.TrailerFollowsTheData : Prop :=
  (∀ c : Crc, trailer c = [c.extractLsb' 0 8, c.extractLsb' 8 8, c.extractLsb' 16 8, c.extractLsb' 24 8] ∧
    (c.extractLsb' 24 8 ++ c.extractLsb' 16 8 ++ c.extractLsb' 8 8 ++ c.extractLsb' 0 8 : BitVec 32) = c) ∧
  (∀ s t : State, s.phase = .rdSend → exec .readm s = .next t →
    t.txq = s.txq ++ s.xb.toList ++ trailer (crc32 s.xb.toList 512)) ∧
  trailer 0xB2AA7578#32 = [0x78#8, 0x75#8, 0xAA#8, 0xB2#8]

/-- R193, R194, R196: a block followed by its own trailer always has one and the same checksum, 0x2144DF1C, the value
that spec/95_test_vectors.md L2.3 gives for four zero bytes, which is how a host can verify a read. The constant rests on
the bit order G1 (log entry 21). -/
def Obligations.TrailerGivesConstantResidue : Prop :=
  ∀ buf : List Byte,
    crc32 (buf ++ trailer (crc32 buf buf.length)) (buf.length + 4) = 0x2144DF1C#32

/-- R190 to R193, R196: two blocks that differ in exactly one byte have different checksums, so the corruption of one
byte of a read block is always detected. The bit order
is G1 (log entry 21). -/
def Obligations.OneChangedByteChangesChecksum : Prop :=
  ∀ (front back : List Byte) (b b' : Byte), b ≠ b' →
    crc32 (front ++ b :: back) (front.length + 1 + back.length) ≠
      crc32 (front ++ b' :: back) (front.length + 1 + back.length)

/-! ### Whole commands -/

/-- R77, R105, example of R105: a Ping frame in its own packet, from an idle engine with an empty frame buffer: after
four steps "PONG" has been sent, one pulse was given, and the engine is idle with everything else as before. The reply's
ASCII codes are G2 (log entry 21), the pulse is D18. -/
def Obligations.PingRun : Prop :=
  ∀ (s : State) (ps : List Packet),
    s.turns = [] → s.phase = .idle → s.cmd = none → s.fb = [] → s.rxq = framePacket .ping :: ps →
    Host.Core.run core 4 s = .next { s with
      rxq := ps, txq := s.txq ++ [0x50#8, 0x4F#8, 0x4E#8, 0x47#8],
      evt := s.evt ++ [.rx [0x42#8, 0x01#8], .tx 0x50#8, .tx 0x4F#8, .tx 0x4E#8, .tx 0x47#8, .ind .pulse] }

/-- R31, R75, R76, R103: whatever bytes share a packet with the frame of a command that completes, another frame among them,
they are discarded at completion, and the command's reply and the cursor are its own: "PONG", nothing and cursor 0, the
stored block with its trailer and cursor + 512, or 0x42 and cursor + 512. A write takes its 512 bytes from later packets
and waits for them when there are none; a packet that does not fit faults instead. "PONG"'s ASCII codes are G2 (log entry
21), the cursor's advance is D10, that bytes after a write's 512th stay queued is D17, that later packets are processed
after the command is D28. -/
def Obligations.BytesAfterAFrameAreDiscarded : Prop :=
  ∀ (s : State) (k : Instr) (rest : List Byte) (ps : List Packet),
    s.turns = [] → s.phase = .idle → s.cmd = none → s.fb = [] → s.rxq = ⟨0x42#8, k.code :: rest⟩ :: ps →
    (Config.frameCap < rest.length + 2 →
      ∃ t, Host.Core.run core 1 s = .next t ∧ t.phase = .faulted ∧ t.faultReason = some .frameOverflow ∧
        t.txq = s.txq) ∧
    (rest.length + 2 ≤ Config.frameCap → k ≠ .read →
      (k = .readm ∨ k = .write → s.cursor.toNat + 512 ≤ 32768) →
      (k ≠ .write →
        ∃ t, Host.Core.run core (commandSteps k) s = .next t ∧ t.phase = .idle ∧ t.cmd = none ∧ t.fb = [] ∧
          t.rxq = ps ∧ t.txq.length = s.txq.length + replyLength k ∧
          (k = .ping → t.txq = s.txq ++ [0x50#8, 0x4F#8, 0x4E#8, 0x47#8] ∧ t.cursor = s.cursor) ∧
          (k = .start → t.txq = s.txq ∧ t.cursor = 0x0000#16) ∧
          (k = .readm → t.txq = s.txq ++ t.xb.toList ++ trailer (crc32 t.xb.toList 512) ∧
            t.cursor = s.cursor + 512#16)) ∧
      (k = .write → ps = [] →
        ∃ t, Host.Core.run core 4 s = .next t ∧ t.phase = .wrRecv ∧ t.i = 0#10 ∧ t.xb = s.xb ∧ t.heldUp = true ∧
          t.txq = s.txq) ∧
      (k = .write → ∀ data tail : List Byte, ps.flatMap Packet.bytes = data ++ tail → data.length = 512 →
        ∃ t, Host.Core.run core (commandSteps k) s = .next t ∧ t.phase = .idle ∧ t.cmd = none ∧ t.fb = [] ∧
          t.xb.toList = data ∧ t.rxq.flatMap Packet.bytes = tail ∧ t.txq = s.txq ++ [0x42#8] ∧
          t.cursor = s.cursor + 512#16))

/-- R108, R150, R155 to R158: a masked read in range, from `DISPATCH` with only engine turns: after 518 steps the engine
is idle, the reply is the 512 stored bytes and the checksum trailer, the trace has gained the set-up, 512 read cycles at
ascending addresses whose samples are the stored bytes, the delay, the reply and the pulse, and the cursor has gained
512; the bus is left as R156 says. The delay's place is D24, the advance's D10, the pulse D18. -/
def Obligations.MaskedReadRun : Prop :=
  ∀ s : State, s.turns = [] → s.phase = .dispatch → s.cmd = some .readm → s.cursor.toNat + 512 ≤ 32768 →
    ∃ t, Host.Core.run core 518 s = .next t ∧
      t.phase = .idle ∧ t.cmd = none ∧ t.fb = [] ∧ t.cursor = s.cursor + 512#16 ∧ t.rxq = s.rxq ∧
      t.txq = s.txq ++ t.xb.toList ++ trailer (crc32 t.xb.toList 512) ∧
      t.lines = linesAt (s.cursor + 511#16) .mask ∧ t.ddir = .input ∧ t.nOE = Level.high ∧ t.nWE = s.nWE ∧
      t.evt = s.evt ++ [.ddir .input, .oe Level.high, .delay .rdPre] ++
        (List.finRange 512).flatMap
          (fun k => readCycleEvents (s.cursor + BitVec.ofNat 16 k.val) (t.xb.get k)) ++
        [.delay .rdPost] ++ (t.xb.toList ++ trailer (crc32 t.xb.toList 512)).map .tx ++ [.ind .pulse]

/-- R62, R195, R24: a masked read does not depend on what an earlier command left in the transfer buffer, in `crc` or in
`DOUT`, which is not driven while the data lines are inputs (D31): the run leaves the same state, reply and events,
whatever they held, and `DOUT` as it was. That the target answers two runs with the same bus history alike is the form of
the oracle, log entry 11; that `crc` ends at the same free value is log entry 14. -/
def Obligations.ReadIgnoresEarlierBuffer : Prop :=
  ∀ (s t : State) (xb : Vector Byte Config.xbCap) (crc : Crc) (dout : Byte),
    s.turns = [] → s.phase = .dispatch → s.cmd = some .readm → s.cursor.toNat + 512 ≤ 32768 →
    Host.Core.run core 518 s = .next t →
    Host.Core.run core 518 { s with xb := xb, crc := crc, dout := dout } = .next { t with dout := dout }

/-- R109, R170, R173 to R175, R179: a write in range with at least 512 bytes waiting in any packets, from `DISPATCH` with
only engine turns: after 1029 steps the engine is idle, the buffer holds the first 512 bytes, the rest is still queued,
the trace has gained the set-up, 512 single receives, 512 write cycles at ascending addresses each carrying its byte,
the acknowledgment and the pulse, and the cursor has gained 512. The strobe's polarity is D8, the order of the steps D9,
the advance's place D10, the queued rest D17, the pulse D18. -/
def Obligations.WriteRun : Prop :=
  ∀ (s : State) (data rest : List Byte), s.turns = [] → s.phase = .dispatch → s.cmd = some .write →
    s.cursor.toNat + 512 ≤ 32768 → s.rxq.flatMap Packet.bytes = data ++ rest → data.length = 512 →
    ∃ t, Host.Core.run core 1029 s = .next t ∧
      t.phase = .idle ∧ t.cmd = none ∧ t.fb = [] ∧ t.cursor = s.cursor + 512#16 ∧
      t.xb.toList = data ∧ t.rxq.flatMap Packet.bytes = rest ∧ t.txq = s.txq ++ [0x42#8] ∧
      t.lines = linesAt (s.cursor + 511#16) .eeprom ∧ t.ddir = .output ∧ t.nOE = Level.high ∧
      t.nWE = Level.high ∧ t.dout = t.xb.get 511 ∧ t.crc = s.crc ∧
      t.evt = s.evt ++ [.ddir .output, .oe Level.high, .we Level.high] ++ data.map (fun b => .rx [b]) ++
        (List.finRange 512).flatMap
          (fun k => writeCycleEvents (s.cursor + BitVec.ofNat 16 k.val) (t.xb.get k)) ++
        [.tx 0x42#8, .ind .pulse]

/-- R242: after a StartSession, any sequence of at most 64 block commands, reads and writes, all succeed, each reply is sent
whole and the cursor has gained 512 for each; the 65th, at cursor 0x8000, faults with `RANGE_READ` or `RANGE_WRITE` and
sends nothing. And of the cursors a session reaches, in any schedule, exactly the 64 below the bound pass the two checks:
the read's check latches the start itself, whatever it held (R151), the write's finds it latched by `WR_SETUP` (R171,
R172). That frames wait in `RXQ` until the command before them completes is D28. -/
def Obligations.SessionHasSixtyFourBlocks : Prop :=
  (∀ (s : State) (ops : List BlockOp) (ps : List Packet),
    s.turns = [] → s.phase = .idle → s.cmd = none → s.fb = [] →
    s.rxq = framePacket .start :: (ops.flatMap BlockOp.packets ++ ps) → ops.length ≤ 64 →
    ∃ t, Host.Core.run core (4 + (ops.map (fun op => commandSteps op.command)).sum) s = .next t ∧
      t.phase = .idle ∧ t.cmd = none ∧ t.fb = [] ∧ t.turns = [] ∧ t.rxq = ps ∧
      t.cursor = BitVec.ofNat 16 (512 * ops.length) ∧ t.faultReason = s.faultReason ∧
      t.txq.length = s.txq.length + (ops.map (fun op => replyLength op.command)).sum) ∧
  (∀ (s : State) (ps : List Packet),
    s.turns = [] → s.phase = .idle → s.cmd = none → s.fb = [] → s.cursor = BitVec.ofNat 16 (512 * 64) →
    (s.rxq = framePacket .readm :: ps →
      ∃ t, Host.Core.run core 3 s = .next t ∧ t.phase = .faulted ∧ t.faultReason = some .rangeRead ∧ t.rxq = ps ∧
        t.txq = s.txq) ∧
    (s.rxq = framePacket .write :: ps →
      ∃ t, Host.Core.run core 4 s = .next t ∧ t.phase = .faulted ∧ t.faultReason = some .rangeWrite ∧ t.rxq = ps ∧
        t.txq = s.txq)) ∧
  (∀ (s : State) (n : Nat), n ≤ 64 → s.cursor = BitVec.ofNat 16 (512 * n) →
    (s.phase = .rdCheck → s.mode = .mask →
      ∃ t, exec .readm s = .next t ∧
        if n < 64 then t.phase = .rdSetup ∧ t.faultReason = s.faultReason
        else t.phase = .faulted ∧ t.faultReason = some .rangeRead) ∧
    (s.phase = .wrCheck → s.start = s.cursor →
      ∃ t, exec .write s = .next t ∧
        if n < 64 then t.phase = .wrRecv ∧ t.faultReason = s.faultReason
        else t.phase = .faulted ∧ t.faultReason = some .rangeWrite))
end

