-- ==== Sys2Proof/Laws/AddressBus.lean ====
section
/-! SUPPORT. The upper lines after a drive, each by its logical bit. -/

namespace Sys2Proof.Machine

/-- The upper line σ(k) carries logical bit `8+k`, whatever it carried before: σ is injective, so no later write of the
six hits it (R130, R131). -/
theorem driveUpper_addrPerm (a : Addr) (old : Vector Level 6) (k : Fin 6) :
    (driveUpper a old)[(Config.addrPerm k).val] = a.getLsbD (8 + k.val) := by
  have hinj : ∀ j : Fin 6, (Config.addrPerm j).val = (Config.addrPerm k).val ↔ j = k := by
    intro j
    rw [← Fin.ext_iff]
    exact Config.addrPerm.injective.eq_iff
  simp only [driveUpper, upperIndices, List.foldl, Vector.getElem_set, hinj]
  fin_cases k <;> simp

/-- Every upper line `j` carries the logical bit `8 + σ⁻¹(j)`. -/
theorem driveUpper_get (a : Addr) (old : Vector Level 6) (j : Fin 6) :
    (driveUpper a old)[j] = a.getLsbD (8 + (Config.addrPerm.symm j).val) := by
  simpa using driveUpper_addrPerm a old (Config.addrPerm.symm j)

end Sys2Proof.Machine
end

