-- ==== Sys2Proof/Laws/Checksum.lean ====
section
/-! SUPPORT. The checksum engine over lists that grow at the end (R192). -/

namespace Sys2Proof.Machine

/-- The running register over a whole list. -/
theorem crcRun_length (buf : List Byte) : crcRun buf buf.length = buf.foldl crcByte Config.crcInit := by
  simp [crcRun]

/-- The bytes of a second list enter after those of the first. -/
theorem crcRun_append (front back : List Byte) :
    crcRun (front ++ back) (front.length + back.length) = back.foldl crcByte (crcRun front front.length) := by
  rw [crcRun_length, ← List.length_append, crcRun_length, List.foldl_append]

end Sys2Proof.Machine
end

