-- ==== Sys2Proof/Laws/State.lean ====
section
/-! SUPPORT. The projections of each named update of the state, one lemma per field, all true by `rfl`. -/

namespace Sys2Proof.Machine

variable (s : State)

/-! ### `record` -/

@[simp] theorem record_cmd (e : Event) : (record e s).cmd = s.cmd := rfl
@[simp] theorem record_phase (e : Event) : (record e s).phase = s.phase := rfl
@[simp] theorem record_i (e : Event) : (record e s).i = s.i := rfl
@[simp] theorem record_start (e : Event) : (record e s).start = s.start := rfl
@[simp] theorem record_mode (e : Event) : (record e s).mode = s.mode := rfl
@[simp] theorem record_cursor (e : Event) : (record e s).cursor = s.cursor := rfl
@[simp] theorem record_fb (e : Event) : (record e s).fb = s.fb := rfl
@[simp] theorem record_xb (e : Event) : (record e s).xb = s.xb := rfl
@[simp] theorem record_crc (e : Event) : (record e s).crc = s.crc := rfl
@[simp] theorem record_faultReason (e : Event) : (record e s).faultReason = s.faultReason := rfl
@[simp] theorem record_lines (e : Event) : (record e s).lines = s.lines := rfl
@[simp] theorem record_ddir (e : Event) : (record e s).ddir = s.ddir := rfl
@[simp] theorem record_dout (e : Event) : (record e s).dout = s.dout := rfl
@[simp] theorem record_nOE (e : Event) : (record e s).nOE = s.nOE := rfl
@[simp] theorem record_nWE (e : Event) : (record e s).nWE = s.nWE := rfl
@[simp] theorem record_ind (e : Event) : (record e s).ind = s.ind := rfl
@[simp] theorem record_rxq (e : Event) : (record e s).rxq = s.rxq := rfl
@[simp] theorem record_txq (e : Event) : (record e s).txq = s.txq := rfl
@[simp] theorem record_evt (e : Event) : (record e s).evt = s.evt ++ [e] := rfl
@[simp] theorem record_turns (e : Event) : (record e s).turns = s.turns := rfl
@[simp] theorem record_draws (e : Event) : (record e s).draws = s.draws := rfl

/-! ### `setPhase` -/

@[simp] theorem setPhase_cmd (p : Phase) : (setPhase p s).cmd = s.cmd := rfl
@[simp] theorem setPhase_phase (p : Phase) : (setPhase p s).phase = p := rfl
@[simp] theorem setPhase_i (p : Phase) : (setPhase p s).i = s.i := rfl
@[simp] theorem setPhase_start (p : Phase) : (setPhase p s).start = s.start := rfl
@[simp] theorem setPhase_mode (p : Phase) : (setPhase p s).mode = s.mode := rfl
@[simp] theorem setPhase_cursor (p : Phase) : (setPhase p s).cursor = s.cursor := rfl
@[simp] theorem setPhase_fb (p : Phase) : (setPhase p s).fb = s.fb := rfl
@[simp] theorem setPhase_xb (p : Phase) : (setPhase p s).xb = s.xb := rfl
@[simp] theorem setPhase_crc (p : Phase) : (setPhase p s).crc = s.crc := rfl
@[simp] theorem setPhase_faultReason (p : Phase) : (setPhase p s).faultReason = s.faultReason := rfl
@[simp] theorem setPhase_lines (p : Phase) : (setPhase p s).lines = s.lines := rfl
@[simp] theorem setPhase_ddir (p : Phase) : (setPhase p s).ddir = s.ddir := rfl
@[simp] theorem setPhase_dout (p : Phase) : (setPhase p s).dout = s.dout := rfl
@[simp] theorem setPhase_nOE (p : Phase) : (setPhase p s).nOE = s.nOE := rfl
@[simp] theorem setPhase_nWE (p : Phase) : (setPhase p s).nWE = s.nWE := rfl
@[simp] theorem setPhase_ind (p : Phase) : (setPhase p s).ind = s.ind := rfl
@[simp] theorem setPhase_rxq (p : Phase) : (setPhase p s).rxq = s.rxq := rfl
@[simp] theorem setPhase_txq (p : Phase) : (setPhase p s).txq = s.txq := rfl
@[simp] theorem setPhase_evt (p : Phase) : (setPhase p s).evt = s.evt := rfl
@[simp] theorem setPhase_turns (p : Phase) : (setPhase p s).turns = s.turns := rfl
@[simp] theorem setPhase_draws (p : Phase) : (setPhase p s).draws = s.draws := rfl

/-! ### `drive` -/

@[simp] theorem drive_cmd (a : Addr) (m : Mode) : (drive a m s).cmd = s.cmd := rfl
@[simp] theorem drive_phase (a : Addr) (m : Mode) : (drive a m s).phase = s.phase := rfl
@[simp] theorem drive_i (a : Addr) (m : Mode) : (drive a m s).i = s.i := rfl
@[simp] theorem drive_start (a : Addr) (m : Mode) : (drive a m s).start = s.start := rfl
@[simp] theorem drive_mode (a : Addr) (m : Mode) : (drive a m s).mode = s.mode := rfl
@[simp] theorem drive_cursor (a : Addr) (m : Mode) : (drive a m s).cursor = s.cursor := rfl
@[simp] theorem drive_fb (a : Addr) (m : Mode) : (drive a m s).fb = s.fb := rfl
@[simp] theorem drive_xb (a : Addr) (m : Mode) : (drive a m s).xb = s.xb := rfl
@[simp] theorem drive_crc (a : Addr) (m : Mode) : (drive a m s).crc = s.crc := rfl
@[simp] theorem drive_faultReason (a : Addr) (m : Mode) : (drive a m s).faultReason = s.faultReason := rfl
@[simp] theorem drive_lines (a : Addr) (m : Mode) : (drive a m s).lines = driveLines a m s.lines := rfl
@[simp] theorem drive_ddir (a : Addr) (m : Mode) : (drive a m s).ddir = s.ddir := rfl
@[simp] theorem drive_dout (a : Addr) (m : Mode) : (drive a m s).dout = s.dout := rfl
@[simp] theorem drive_nOE (a : Addr) (m : Mode) : (drive a m s).nOE = s.nOE := rfl
@[simp] theorem drive_nWE (a : Addr) (m : Mode) : (drive a m s).nWE = s.nWE := rfl
@[simp] theorem drive_ind (a : Addr) (m : Mode) : (drive a m s).ind = s.ind := rfl
@[simp] theorem drive_rxq (a : Addr) (m : Mode) : (drive a m s).rxq = s.rxq := rfl
@[simp] theorem drive_txq (a : Addr) (m : Mode) : (drive a m s).txq = s.txq := rfl
@[simp] theorem drive_evt (a : Addr) (m : Mode) : (drive a m s).evt = s.evt ++ [.lines (driveLines a m s.lines)] := rfl
@[simp] theorem drive_turns (a : Addr) (m : Mode) : (drive a m s).turns = s.turns := rfl
@[simp] theorem drive_draws (a : Addr) (m : Mode) : (drive a m s).draws = s.draws := rfl

/-! ### `setDdir` -/

@[simp] theorem setDdir_cmd (d : Direction) : (setDdir d s).cmd = s.cmd := rfl
@[simp] theorem setDdir_phase (d : Direction) : (setDdir d s).phase = s.phase := rfl
@[simp] theorem setDdir_i (d : Direction) : (setDdir d s).i = s.i := rfl
@[simp] theorem setDdir_start (d : Direction) : (setDdir d s).start = s.start := rfl
@[simp] theorem setDdir_mode (d : Direction) : (setDdir d s).mode = s.mode := rfl
@[simp] theorem setDdir_cursor (d : Direction) : (setDdir d s).cursor = s.cursor := rfl
@[simp] theorem setDdir_fb (d : Direction) : (setDdir d s).fb = s.fb := rfl
@[simp] theorem setDdir_xb (d : Direction) : (setDdir d s).xb = s.xb := rfl
@[simp] theorem setDdir_crc (d : Direction) : (setDdir d s).crc = s.crc := rfl
@[simp] theorem setDdir_faultReason (d : Direction) : (setDdir d s).faultReason = s.faultReason := rfl
@[simp] theorem setDdir_lines (d : Direction) : (setDdir d s).lines = s.lines := rfl
@[simp] theorem setDdir_ddir (d : Direction) : (setDdir d s).ddir = d := rfl
@[simp] theorem setDdir_dout (d : Direction) : (setDdir d s).dout = s.dout := rfl
@[simp] theorem setDdir_nOE (d : Direction) : (setDdir d s).nOE = s.nOE := rfl
@[simp] theorem setDdir_nWE (d : Direction) : (setDdir d s).nWE = s.nWE := rfl
@[simp] theorem setDdir_ind (d : Direction) : (setDdir d s).ind = s.ind := rfl
@[simp] theorem setDdir_rxq (d : Direction) : (setDdir d s).rxq = s.rxq := rfl
@[simp] theorem setDdir_txq (d : Direction) : (setDdir d s).txq = s.txq := rfl
@[simp] theorem setDdir_evt (d : Direction) : (setDdir d s).evt = s.evt ++ [.ddir d] := rfl
@[simp] theorem setDdir_turns (d : Direction) : (setDdir d s).turns = s.turns := rfl
@[simp] theorem setDdir_draws (d : Direction) : (setDdir d s).draws = s.draws := rfl

/-! ### `setOE` -/

@[simp] theorem setOE_cmd (l : Level) : (setOE l s).cmd = s.cmd := rfl
@[simp] theorem setOE_phase (l : Level) : (setOE l s).phase = s.phase := rfl
@[simp] theorem setOE_i (l : Level) : (setOE l s).i = s.i := rfl
@[simp] theorem setOE_start (l : Level) : (setOE l s).start = s.start := rfl
@[simp] theorem setOE_mode (l : Level) : (setOE l s).mode = s.mode := rfl
@[simp] theorem setOE_cursor (l : Level) : (setOE l s).cursor = s.cursor := rfl
@[simp] theorem setOE_fb (l : Level) : (setOE l s).fb = s.fb := rfl
@[simp] theorem setOE_xb (l : Level) : (setOE l s).xb = s.xb := rfl
@[simp] theorem setOE_crc (l : Level) : (setOE l s).crc = s.crc := rfl
@[simp] theorem setOE_faultReason (l : Level) : (setOE l s).faultReason = s.faultReason := rfl
@[simp] theorem setOE_lines (l : Level) : (setOE l s).lines = s.lines := rfl
@[simp] theorem setOE_ddir (l : Level) : (setOE l s).ddir = s.ddir := rfl
@[simp] theorem setOE_dout (l : Level) : (setOE l s).dout = s.dout := rfl
@[simp] theorem setOE_nOE (l : Level) : (setOE l s).nOE = l := rfl
@[simp] theorem setOE_nWE (l : Level) : (setOE l s).nWE = s.nWE := rfl
@[simp] theorem setOE_ind (l : Level) : (setOE l s).ind = s.ind := rfl
@[simp] theorem setOE_rxq (l : Level) : (setOE l s).rxq = s.rxq := rfl
@[simp] theorem setOE_txq (l : Level) : (setOE l s).txq = s.txq := rfl
@[simp] theorem setOE_evt (l : Level) : (setOE l s).evt = s.evt ++ [.oe l] := rfl
@[simp] theorem setOE_turns (l : Level) : (setOE l s).turns = s.turns := rfl
@[simp] theorem setOE_draws (l : Level) : (setOE l s).draws = s.draws := rfl

/-! ### `setWE` -/

@[simp] theorem setWE_cmd (l : Level) : (setWE l s).cmd = s.cmd := rfl
@[simp] theorem setWE_phase (l : Level) : (setWE l s).phase = s.phase := rfl
@[simp] theorem setWE_i (l : Level) : (setWE l s).i = s.i := rfl
@[simp] theorem setWE_start (l : Level) : (setWE l s).start = s.start := rfl
@[simp] theorem setWE_mode (l : Level) : (setWE l s).mode = s.mode := rfl
@[simp] theorem setWE_cursor (l : Level) : (setWE l s).cursor = s.cursor := rfl
@[simp] theorem setWE_fb (l : Level) : (setWE l s).fb = s.fb := rfl
@[simp] theorem setWE_xb (l : Level) : (setWE l s).xb = s.xb := rfl
@[simp] theorem setWE_crc (l : Level) : (setWE l s).crc = s.crc := rfl
@[simp] theorem setWE_faultReason (l : Level) : (setWE l s).faultReason = s.faultReason := rfl
@[simp] theorem setWE_lines (l : Level) : (setWE l s).lines = s.lines := rfl
@[simp] theorem setWE_ddir (l : Level) : (setWE l s).ddir = s.ddir := rfl
@[simp] theorem setWE_dout (l : Level) : (setWE l s).dout = s.dout := rfl
@[simp] theorem setWE_nOE (l : Level) : (setWE l s).nOE = s.nOE := rfl
@[simp] theorem setWE_nWE (l : Level) : (setWE l s).nWE = l := rfl
@[simp] theorem setWE_ind (l : Level) : (setWE l s).ind = s.ind := rfl
@[simp] theorem setWE_rxq (l : Level) : (setWE l s).rxq = s.rxq := rfl
@[simp] theorem setWE_txq (l : Level) : (setWE l s).txq = s.txq := rfl
@[simp] theorem setWE_evt (l : Level) : (setWE l s).evt = s.evt ++ [.we l] := rfl
@[simp] theorem setWE_turns (l : Level) : (setWE l s).turns = s.turns := rfl
@[simp] theorem setWE_draws (l : Level) : (setWE l s).draws = s.draws := rfl

/-! ### `setDout` -/

@[simp] theorem setDout_cmd (b : Byte) : (setDout b s).cmd = s.cmd := rfl
@[simp] theorem setDout_phase (b : Byte) : (setDout b s).phase = s.phase := rfl
@[simp] theorem setDout_i (b : Byte) : (setDout b s).i = s.i := rfl
@[simp] theorem setDout_start (b : Byte) : (setDout b s).start = s.start := rfl
@[simp] theorem setDout_mode (b : Byte) : (setDout b s).mode = s.mode := rfl
@[simp] theorem setDout_cursor (b : Byte) : (setDout b s).cursor = s.cursor := rfl
@[simp] theorem setDout_fb (b : Byte) : (setDout b s).fb = s.fb := rfl
@[simp] theorem setDout_xb (b : Byte) : (setDout b s).xb = s.xb := rfl
@[simp] theorem setDout_crc (b : Byte) : (setDout b s).crc = s.crc := rfl
@[simp] theorem setDout_faultReason (b : Byte) : (setDout b s).faultReason = s.faultReason := rfl
@[simp] theorem setDout_lines (b : Byte) : (setDout b s).lines = s.lines := rfl
@[simp] theorem setDout_ddir (b : Byte) : (setDout b s).ddir = s.ddir := rfl
@[simp] theorem setDout_dout (b : Byte) : (setDout b s).dout = b := rfl
@[simp] theorem setDout_nOE (b : Byte) : (setDout b s).nOE = s.nOE := rfl
@[simp] theorem setDout_nWE (b : Byte) : (setDout b s).nWE = s.nWE := rfl
@[simp] theorem setDout_ind (b : Byte) : (setDout b s).ind = s.ind := rfl
@[simp] theorem setDout_rxq (b : Byte) : (setDout b s).rxq = s.rxq := rfl
@[simp] theorem setDout_txq (b : Byte) : (setDout b s).txq = s.txq := rfl
@[simp] theorem setDout_evt (b : Byte) : (setDout b s).evt = s.evt ++ [.dout b] := rfl
@[simp] theorem setDout_turns (b : Byte) : (setDout b s).turns = s.turns := rfl
@[simp] theorem setDout_draws (b : Byte) : (setDout b s).draws = s.draws := rfl

/-! ### `delay` -/

@[simp] theorem delay_cmd (k : DelayKind) : (delay k s).cmd = s.cmd := rfl
@[simp] theorem delay_phase (k : DelayKind) : (delay k s).phase = s.phase := rfl
@[simp] theorem delay_i (k : DelayKind) : (delay k s).i = s.i := rfl
@[simp] theorem delay_start (k : DelayKind) : (delay k s).start = s.start := rfl
@[simp] theorem delay_mode (k : DelayKind) : (delay k s).mode = s.mode := rfl
@[simp] theorem delay_cursor (k : DelayKind) : (delay k s).cursor = s.cursor := rfl
@[simp] theorem delay_fb (k : DelayKind) : (delay k s).fb = s.fb := rfl
@[simp] theorem delay_xb (k : DelayKind) : (delay k s).xb = s.xb := rfl
@[simp] theorem delay_crc (k : DelayKind) : (delay k s).crc = s.crc := rfl
@[simp] theorem delay_faultReason (k : DelayKind) : (delay k s).faultReason = s.faultReason := rfl
@[simp] theorem delay_lines (k : DelayKind) : (delay k s).lines = s.lines := rfl
@[simp] theorem delay_ddir (k : DelayKind) : (delay k s).ddir = s.ddir := rfl
@[simp] theorem delay_dout (k : DelayKind) : (delay k s).dout = s.dout := rfl
@[simp] theorem delay_nOE (k : DelayKind) : (delay k s).nOE = s.nOE := rfl
@[simp] theorem delay_nWE (k : DelayKind) : (delay k s).nWE = s.nWE := rfl
@[simp] theorem delay_ind (k : DelayKind) : (delay k s).ind = s.ind := rfl
@[simp] theorem delay_rxq (k : DelayKind) : (delay k s).rxq = s.rxq := rfl
@[simp] theorem delay_txq (k : DelayKind) : (delay k s).txq = s.txq := rfl
@[simp] theorem delay_evt (k : DelayKind) : (delay k s).evt = s.evt ++ [.delay k] := rfl
@[simp] theorem delay_turns (k : DelayKind) : (delay k s).turns = s.turns := rfl
@[simp] theorem delay_draws (k : DelayKind) : (delay k s).draws = s.draws := rfl

/-! ### `txSend` -/

@[simp] theorem txSend_cmd (b : Byte) : (txSend b s).cmd = s.cmd := rfl
@[simp] theorem txSend_phase (b : Byte) : (txSend b s).phase = s.phase := rfl
@[simp] theorem txSend_i (b : Byte) : (txSend b s).i = s.i := rfl
@[simp] theorem txSend_start (b : Byte) : (txSend b s).start = s.start := rfl
@[simp] theorem txSend_mode (b : Byte) : (txSend b s).mode = s.mode := rfl
@[simp] theorem txSend_cursor (b : Byte) : (txSend b s).cursor = s.cursor := rfl
@[simp] theorem txSend_fb (b : Byte) : (txSend b s).fb = s.fb := rfl
@[simp] theorem txSend_xb (b : Byte) : (txSend b s).xb = s.xb := rfl
@[simp] theorem txSend_crc (b : Byte) : (txSend b s).crc = s.crc := rfl
@[simp] theorem txSend_faultReason (b : Byte) : (txSend b s).faultReason = s.faultReason := rfl
@[simp] theorem txSend_lines (b : Byte) : (txSend b s).lines = s.lines := rfl
@[simp] theorem txSend_ddir (b : Byte) : (txSend b s).ddir = s.ddir := rfl
@[simp] theorem txSend_dout (b : Byte) : (txSend b s).dout = s.dout := rfl
@[simp] theorem txSend_nOE (b : Byte) : (txSend b s).nOE = s.nOE := rfl
@[simp] theorem txSend_nWE (b : Byte) : (txSend b s).nWE = s.nWE := rfl
@[simp] theorem txSend_ind (b : Byte) : (txSend b s).ind = s.ind := rfl
@[simp] theorem txSend_rxq (b : Byte) : (txSend b s).rxq = s.rxq := rfl
@[simp] theorem txSend_txq (b : Byte) : (txSend b s).txq = s.txq ++ [b] := rfl
@[simp] theorem txSend_evt (b : Byte) : (txSend b s).evt = s.evt ++ [.tx b] := rfl
@[simp] theorem txSend_turns (b : Byte) : (txSend b s).turns = s.turns := rfl
@[simp] theorem txSend_draws (b : Byte) : (txSend b s).draws = s.draws := rfl

/-! ### `rxTakePacket` -/

@[simp] theorem rxTakePacket_cmd (p : Packet) (ps : List Packet) : (rxTakePacket p ps s).cmd = s.cmd := rfl
@[simp] theorem rxTakePacket_phase (p : Packet) (ps : List Packet) : (rxTakePacket p ps s).phase = s.phase := rfl
@[simp] theorem rxTakePacket_i (p : Packet) (ps : List Packet) : (rxTakePacket p ps s).i = s.i := rfl
@[simp] theorem rxTakePacket_start (p : Packet) (ps : List Packet) : (rxTakePacket p ps s).start = s.start := rfl
@[simp] theorem rxTakePacket_mode (p : Packet) (ps : List Packet) : (rxTakePacket p ps s).mode = s.mode := rfl
@[simp] theorem rxTakePacket_cursor (p : Packet) (ps : List Packet) : (rxTakePacket p ps s).cursor = s.cursor := rfl
@[simp] theorem rxTakePacket_fb (p : Packet) (ps : List Packet) : (rxTakePacket p ps s).fb = s.fb := rfl
@[simp] theorem rxTakePacket_xb (p : Packet) (ps : List Packet) : (rxTakePacket p ps s).xb = s.xb := rfl
@[simp] theorem rxTakePacket_crc (p : Packet) (ps : List Packet) : (rxTakePacket p ps s).crc = s.crc := rfl
@[simp] theorem rxTakePacket_faultReason (p : Packet) (ps : List Packet) : (rxTakePacket p ps s).faultReason = s.faultReason := rfl
@[simp] theorem rxTakePacket_lines (p : Packet) (ps : List Packet) : (rxTakePacket p ps s).lines = s.lines := rfl
@[simp] theorem rxTakePacket_ddir (p : Packet) (ps : List Packet) : (rxTakePacket p ps s).ddir = s.ddir := rfl
@[simp] theorem rxTakePacket_dout (p : Packet) (ps : List Packet) : (rxTakePacket p ps s).dout = s.dout := rfl
@[simp] theorem rxTakePacket_nOE (p : Packet) (ps : List Packet) : (rxTakePacket p ps s).nOE = s.nOE := rfl
@[simp] theorem rxTakePacket_nWE (p : Packet) (ps : List Packet) : (rxTakePacket p ps s).nWE = s.nWE := rfl
@[simp] theorem rxTakePacket_ind (p : Packet) (ps : List Packet) : (rxTakePacket p ps s).ind = s.ind := rfl
@[simp] theorem rxTakePacket_rxq (p : Packet) (ps : List Packet) : (rxTakePacket p ps s).rxq = ps := rfl
@[simp] theorem rxTakePacket_txq (p : Packet) (ps : List Packet) : (rxTakePacket p ps s).txq = s.txq := rfl
@[simp] theorem rxTakePacket_evt (p : Packet) (ps : List Packet) : (rxTakePacket p ps s).evt = s.evt ++ [.rx p.bytes] := rfl
@[simp] theorem rxTakePacket_turns (p : Packet) (ps : List Packet) : (rxTakePacket p ps s).turns = s.turns := rfl
@[simp] theorem rxTakePacket_draws (p : Packet) (ps : List Packet) : (rxTakePacket p ps s).draws = s.draws := rfl

/-! ### `rxTakeByte` -/

@[simp] theorem rxTakeByte_cmd (p : Packet) (ps : List Packet) : (rxTakeByte p ps s).cmd = s.cmd := rfl
@[simp] theorem rxTakeByte_phase (p : Packet) (ps : List Packet) : (rxTakeByte p ps s).phase = s.phase := rfl
@[simp] theorem rxTakeByte_i (p : Packet) (ps : List Packet) : (rxTakeByte p ps s).i = s.i := rfl
@[simp] theorem rxTakeByte_start (p : Packet) (ps : List Packet) : (rxTakeByte p ps s).start = s.start := rfl
@[simp] theorem rxTakeByte_mode (p : Packet) (ps : List Packet) : (rxTakeByte p ps s).mode = s.mode := rfl
@[simp] theorem rxTakeByte_cursor (p : Packet) (ps : List Packet) : (rxTakeByte p ps s).cursor = s.cursor := rfl
@[simp] theorem rxTakeByte_fb (p : Packet) (ps : List Packet) : (rxTakeByte p ps s).fb = s.fb := rfl
@[simp] theorem rxTakeByte_xb (p : Packet) (ps : List Packet) : (rxTakeByte p ps s).xb = s.xb := rfl
@[simp] theorem rxTakeByte_crc (p : Packet) (ps : List Packet) : (rxTakeByte p ps s).crc = s.crc := rfl
@[simp] theorem rxTakeByte_faultReason (p : Packet) (ps : List Packet) : (rxTakeByte p ps s).faultReason = s.faultReason := rfl
@[simp] theorem rxTakeByte_lines (p : Packet) (ps : List Packet) : (rxTakeByte p ps s).lines = s.lines := rfl
@[simp] theorem rxTakeByte_ddir (p : Packet) (ps : List Packet) : (rxTakeByte p ps s).ddir = s.ddir := rfl
@[simp] theorem rxTakeByte_dout (p : Packet) (ps : List Packet) : (rxTakeByte p ps s).dout = s.dout := rfl
@[simp] theorem rxTakeByte_nOE (p : Packet) (ps : List Packet) : (rxTakeByte p ps s).nOE = s.nOE := rfl
@[simp] theorem rxTakeByte_nWE (p : Packet) (ps : List Packet) : (rxTakeByte p ps s).nWE = s.nWE := rfl
@[simp] theorem rxTakeByte_ind (p : Packet) (ps : List Packet) : (rxTakeByte p ps s).ind = s.ind := rfl
@[simp] theorem rxTakeByte_rxq (p : Packet) (ps : List Packet) : (rxTakeByte p ps s).rxq = dropHeadByte p ps := rfl
@[simp] theorem rxTakeByte_txq (p : Packet) (ps : List Packet) : (rxTakeByte p ps s).txq = s.txq := rfl
@[simp] theorem rxTakeByte_evt (p : Packet) (ps : List Packet) : (rxTakeByte p ps s).evt = s.evt ++ [.rx [p.first]] := rfl
@[simp] theorem rxTakeByte_turns (p : Packet) (ps : List Packet) : (rxTakeByte p ps s).turns = s.turns := rfl
@[simp] theorem rxTakeByte_draws (p : Packet) (ps : List Packet) : (rxTakeByte p ps s).draws = s.draws := rfl

/-! ### `indicate` -/

@[simp] theorem indicate_cmd (k : IndKind) : (indicate k s).cmd = s.cmd := rfl
@[simp] theorem indicate_phase (k : IndKind) : (indicate k s).phase = s.phase := rfl
@[simp] theorem indicate_i (k : IndKind) : (indicate k s).i = s.i := rfl
@[simp] theorem indicate_start (k : IndKind) : (indicate k s).start = s.start := rfl
@[simp] theorem indicate_mode (k : IndKind) : (indicate k s).mode = s.mode := rfl
@[simp] theorem indicate_cursor (k : IndKind) : (indicate k s).cursor = s.cursor := rfl
@[simp] theorem indicate_fb (k : IndKind) : (indicate k s).fb = s.fb := rfl
@[simp] theorem indicate_xb (k : IndKind) : (indicate k s).xb = s.xb := rfl
@[simp] theorem indicate_crc (k : IndKind) : (indicate k s).crc = s.crc := rfl
@[simp] theorem indicate_faultReason (k : IndKind) : (indicate k s).faultReason = s.faultReason := rfl
@[simp] theorem indicate_lines (k : IndKind) : (indicate k s).lines = s.lines := rfl
@[simp] theorem indicate_ddir (k : IndKind) : (indicate k s).ddir = s.ddir := rfl
@[simp] theorem indicate_dout (k : IndKind) : (indicate k s).dout = s.dout := rfl
@[simp] theorem indicate_nOE (k : IndKind) : (indicate k s).nOE = s.nOE := rfl
@[simp] theorem indicate_nWE (k : IndKind) : (indicate k s).nWE = s.nWE := rfl
@[simp] theorem indicate_ind (k : IndKind) : (indicate k s).ind = s.ind := rfl
@[simp] theorem indicate_rxq (k : IndKind) : (indicate k s).rxq = s.rxq := rfl
@[simp] theorem indicate_txq (k : IndKind) : (indicate k s).txq = s.txq := rfl
@[simp] theorem indicate_evt (k : IndKind) : (indicate k s).evt = s.evt ++ [.ind k] := rfl
@[simp] theorem indicate_turns (k : IndKind) : (indicate k s).turns = s.turns := rfl
@[simp] theorem indicate_draws (k : IndKind) : (indicate k s).draws = s.draws := rfl

/-! ### `raise` -/

@[simp] theorem raise_cmd (r : FaultReason) : (raise r s).cmd = s.cmd := rfl
@[simp] theorem raise_phase (r : FaultReason) : (raise r s).phase = .faulted := rfl
@[simp] theorem raise_i (r : FaultReason) : (raise r s).i = s.i := rfl
@[simp] theorem raise_start (r : FaultReason) : (raise r s).start = s.start := rfl
@[simp] theorem raise_mode (r : FaultReason) : (raise r s).mode = s.mode := rfl
@[simp] theorem raise_cursor (r : FaultReason) : (raise r s).cursor = s.cursor := rfl
@[simp] theorem raise_fb (r : FaultReason) : (raise r s).fb = s.fb := rfl
@[simp] theorem raise_xb (r : FaultReason) : (raise r s).xb = s.xb := rfl
@[simp] theorem raise_crc (r : FaultReason) : (raise r s).crc = s.crc := rfl
@[simp] theorem raise_faultReason (r : FaultReason) : (raise r s).faultReason = some r := rfl
@[simp] theorem raise_lines (r : FaultReason) : (raise r s).lines = s.lines := rfl
@[simp] theorem raise_ddir (r : FaultReason) : (raise r s).ddir = s.ddir := rfl
@[simp] theorem raise_dout (r : FaultReason) : (raise r s).dout = s.dout := rfl
@[simp] theorem raise_nOE (r : FaultReason) : (raise r s).nOE = s.nOE := rfl
@[simp] theorem raise_nWE (r : FaultReason) : (raise r s).nWE = s.nWE := rfl
@[simp] theorem raise_ind (r : FaultReason) : (raise r s).ind = .fault := rfl
@[simp] theorem raise_rxq (r : FaultReason) : (raise r s).rxq = s.rxq := rfl
@[simp] theorem raise_txq (r : FaultReason) : (raise r s).txq = s.txq := rfl
@[simp] theorem raise_evt (r : FaultReason) : (raise r s).evt = s.evt ++ [.ind .fault] ++ [.fault r] := rfl
@[simp] theorem raise_turns (r : FaultReason) : (raise r s).turns = s.turns := rfl
@[simp] theorem raise_draws (r : FaultReason) : (raise r s).draws = s.draws := rfl

/-! ### `setCursor` -/

@[simp] theorem setCursor_cmd (c : Addr) : (setCursor c s).cmd = s.cmd := rfl
@[simp] theorem setCursor_phase (c : Addr) : (setCursor c s).phase = s.phase := rfl
@[simp] theorem setCursor_i (c : Addr) : (setCursor c s).i = s.i := rfl
@[simp] theorem setCursor_start (c : Addr) : (setCursor c s).start = s.start := rfl
@[simp] theorem setCursor_mode (c : Addr) : (setCursor c s).mode = s.mode := rfl
@[simp] theorem setCursor_cursor (c : Addr) : (setCursor c s).cursor = c := rfl
@[simp] theorem setCursor_fb (c : Addr) : (setCursor c s).fb = s.fb := rfl
@[simp] theorem setCursor_xb (c : Addr) : (setCursor c s).xb = s.xb := rfl
@[simp] theorem setCursor_crc (c : Addr) : (setCursor c s).crc = s.crc := rfl
@[simp] theorem setCursor_faultReason (c : Addr) : (setCursor c s).faultReason = s.faultReason := rfl
@[simp] theorem setCursor_lines (c : Addr) : (setCursor c s).lines = s.lines := rfl
@[simp] theorem setCursor_ddir (c : Addr) : (setCursor c s).ddir = s.ddir := rfl
@[simp] theorem setCursor_dout (c : Addr) : (setCursor c s).dout = s.dout := rfl
@[simp] theorem setCursor_nOE (c : Addr) : (setCursor c s).nOE = s.nOE := rfl
@[simp] theorem setCursor_nWE (c : Addr) : (setCursor c s).nWE = s.nWE := rfl
@[simp] theorem setCursor_ind (c : Addr) : (setCursor c s).ind = s.ind := rfl
@[simp] theorem setCursor_rxq (c : Addr) : (setCursor c s).rxq = s.rxq := rfl
@[simp] theorem setCursor_txq (c : Addr) : (setCursor c s).txq = s.txq := rfl
@[simp] theorem setCursor_evt (c : Addr) : (setCursor c s).evt = s.evt := rfl
@[simp] theorem setCursor_turns (c : Addr) : (setCursor c s).turns = s.turns := rfl
@[simp] theorem setCursor_draws (c : Addr) : (setCursor c s).draws = s.draws := rfl

/-! ### `dropChecksum` -/

@[simp] theorem dropChecksum_cmd : (dropChecksum s).cmd = s.cmd := rfl
@[simp] theorem dropChecksum_phase : (dropChecksum s).phase = s.phase := rfl
@[simp] theorem dropChecksum_i : (dropChecksum s).i = s.i := rfl
@[simp] theorem dropChecksum_start : (dropChecksum s).start = s.start := rfl
@[simp] theorem dropChecksum_mode : (dropChecksum s).mode = s.mode := rfl
@[simp] theorem dropChecksum_cursor : (dropChecksum s).cursor = s.cursor := rfl
@[simp] theorem dropChecksum_fb : (dropChecksum s).fb = s.fb := rfl
@[simp] theorem dropChecksum_xb : (dropChecksum s).xb = s.xb := rfl
@[simp] theorem dropChecksum_crc : (dropChecksum s).crc = Config.crcLeft s.draws := rfl
@[simp] theorem dropChecksum_faultReason : (dropChecksum s).faultReason = s.faultReason := rfl
@[simp] theorem dropChecksum_lines : (dropChecksum s).lines = s.lines := rfl
@[simp] theorem dropChecksum_ddir : (dropChecksum s).ddir = s.ddir := rfl
@[simp] theorem dropChecksum_dout : (dropChecksum s).dout = s.dout := rfl
@[simp] theorem dropChecksum_nOE : (dropChecksum s).nOE = s.nOE := rfl
@[simp] theorem dropChecksum_nWE : (dropChecksum s).nWE = s.nWE := rfl
@[simp] theorem dropChecksum_ind : (dropChecksum s).ind = s.ind := rfl
@[simp] theorem dropChecksum_rxq : (dropChecksum s).rxq = s.rxq := rfl
@[simp] theorem dropChecksum_txq : (dropChecksum s).txq = s.txq := rfl
@[simp] theorem dropChecksum_evt : (dropChecksum s).evt = s.evt := rfl
@[simp] theorem dropChecksum_turns : (dropChecksum s).turns = s.turns := rfl
@[simp] theorem dropChecksum_draws : (dropChecksum s).draws = s.draws + 1 := rfl

/-! ### `runChecksum` -/

@[simp] theorem runChecksum_crc : (runChecksum s).crc = crcRun s.xb.toList Config.block := rfl
@[simp] theorem runChecksum_draws : (runChecksum s).draws = s.draws := rfl

/-! ### `setCrc` -/

@[simp] theorem setCrc_cmd (c : Crc) : (setCrc c s).cmd = s.cmd := rfl
@[simp] theorem setCrc_phase (c : Crc) : (setCrc c s).phase = s.phase := rfl
@[simp] theorem setCrc_i (c : Crc) : (setCrc c s).i = s.i := rfl
@[simp] theorem setCrc_start (c : Crc) : (setCrc c s).start = s.start := rfl
@[simp] theorem setCrc_mode (c : Crc) : (setCrc c s).mode = s.mode := rfl
@[simp] theorem setCrc_cursor (c : Crc) : (setCrc c s).cursor = s.cursor := rfl
@[simp] theorem setCrc_fb (c : Crc) : (setCrc c s).fb = s.fb := rfl
@[simp] theorem setCrc_xb (c : Crc) : (setCrc c s).xb = s.xb := rfl
@[simp] theorem setCrc_crc (c : Crc) : (setCrc c s).crc = c := rfl
@[simp] theorem setCrc_faultReason (c : Crc) : (setCrc c s).faultReason = s.faultReason := rfl
@[simp] theorem setCrc_lines (c : Crc) : (setCrc c s).lines = s.lines := rfl
@[simp] theorem setCrc_ddir (c : Crc) : (setCrc c s).ddir = s.ddir := rfl
@[simp] theorem setCrc_dout (c : Crc) : (setCrc c s).dout = s.dout := rfl
@[simp] theorem setCrc_nOE (c : Crc) : (setCrc c s).nOE = s.nOE := rfl
@[simp] theorem setCrc_nWE (c : Crc) : (setCrc c s).nWE = s.nWE := rfl
@[simp] theorem setCrc_ind (c : Crc) : (setCrc c s).ind = s.ind := rfl
@[simp] theorem setCrc_rxq (c : Crc) : (setCrc c s).rxq = s.rxq := rfl
@[simp] theorem setCrc_txq (c : Crc) : (setCrc c s).txq = s.txq := rfl
@[simp] theorem setCrc_evt (c : Crc) : (setCrc c s).evt = s.evt := rfl
@[simp] theorem setCrc_turns (c : Crc) : (setCrc c s).turns = s.turns := rfl
@[simp] theorem setCrc_draws (c : Crc) : (setCrc c s).draws = s.draws := rfl

/-! ### `hostSend` -/

@[simp] theorem hostSend_cmd (p : Packet) : (hostSend p s).cmd = s.cmd := rfl
@[simp] theorem hostSend_phase (p : Packet) : (hostSend p s).phase = s.phase := rfl
@[simp] theorem hostSend_i (p : Packet) : (hostSend p s).i = s.i := rfl
@[simp] theorem hostSend_start (p : Packet) : (hostSend p s).start = s.start := rfl
@[simp] theorem hostSend_mode (p : Packet) : (hostSend p s).mode = s.mode := rfl
@[simp] theorem hostSend_cursor (p : Packet) : (hostSend p s).cursor = s.cursor := rfl
@[simp] theorem hostSend_fb (p : Packet) : (hostSend p s).fb = s.fb := rfl
@[simp] theorem hostSend_xb (p : Packet) : (hostSend p s).xb = s.xb := rfl
@[simp] theorem hostSend_crc (p : Packet) : (hostSend p s).crc = s.crc := rfl
@[simp] theorem hostSend_faultReason (p : Packet) : (hostSend p s).faultReason = s.faultReason := rfl
@[simp] theorem hostSend_lines (p : Packet) : (hostSend p s).lines = s.lines := rfl
@[simp] theorem hostSend_ddir (p : Packet) : (hostSend p s).ddir = s.ddir := rfl
@[simp] theorem hostSend_dout (p : Packet) : (hostSend p s).dout = s.dout := rfl
@[simp] theorem hostSend_nOE (p : Packet) : (hostSend p s).nOE = s.nOE := rfl
@[simp] theorem hostSend_nWE (p : Packet) : (hostSend p s).nWE = s.nWE := rfl
@[simp] theorem hostSend_ind (p : Packet) : (hostSend p s).ind = s.ind := rfl
@[simp] theorem hostSend_rxq (p : Packet) : (hostSend p s).rxq = s.rxq ++ [p] := rfl
@[simp] theorem hostSend_txq (p : Packet) : (hostSend p s).txq = s.txq := rfl
@[simp] theorem hostSend_evt (p : Packet) : (hostSend p s).evt = s.evt := rfl
@[simp] theorem hostSend_turns (p : Packet) : (hostSend p s).turns = s.turns := rfl
@[simp] theorem hostSend_draws (p : Packet) : (hostSend p s).draws = s.draws := rfl

/-! ### `hostTake` -/

@[simp] theorem hostTake_cmd : (hostTake s).cmd = s.cmd := rfl
@[simp] theorem hostTake_phase : (hostTake s).phase = s.phase := rfl
@[simp] theorem hostTake_i : (hostTake s).i = s.i := rfl
@[simp] theorem hostTake_start : (hostTake s).start = s.start := rfl
@[simp] theorem hostTake_mode : (hostTake s).mode = s.mode := rfl
@[simp] theorem hostTake_cursor : (hostTake s).cursor = s.cursor := rfl
@[simp] theorem hostTake_fb : (hostTake s).fb = s.fb := rfl
@[simp] theorem hostTake_xb : (hostTake s).xb = s.xb := rfl
@[simp] theorem hostTake_crc : (hostTake s).crc = s.crc := rfl
@[simp] theorem hostTake_faultReason : (hostTake s).faultReason = s.faultReason := rfl
@[simp] theorem hostTake_lines : (hostTake s).lines = s.lines := rfl
@[simp] theorem hostTake_ddir : (hostTake s).ddir = s.ddir := rfl
@[simp] theorem hostTake_dout : (hostTake s).dout = s.dout := rfl
@[simp] theorem hostTake_nOE : (hostTake s).nOE = s.nOE := rfl
@[simp] theorem hostTake_nWE : (hostTake s).nWE = s.nWE := rfl
@[simp] theorem hostTake_ind : (hostTake s).ind = s.ind := rfl
@[simp] theorem hostTake_rxq : (hostTake s).rxq = s.rxq := rfl
@[simp] theorem hostTake_txq : (hostTake s).txq = s.txq.drop 1 := rfl
@[simp] theorem hostTake_evt : (hostTake s).evt = s.evt := rfl
@[simp] theorem hostTake_turns : (hostTake s).turns = s.turns := rfl
@[simp] theorem hostTake_draws : (hostTake s).draws = s.draws := rfl

/-! ### `acceptCommand` -/

@[simp] theorem acceptCommand_cmd (c : Instr) : (acceptCommand c s).cmd = some c := rfl
@[simp] theorem acceptCommand_phase (c : Instr) : (acceptCommand c s).phase = .dispatch := rfl
@[simp] theorem acceptCommand_i (c : Instr) : (acceptCommand c s).i = s.i := rfl
@[simp] theorem acceptCommand_start (c : Instr) : (acceptCommand c s).start = s.start := rfl
@[simp] theorem acceptCommand_mode (c : Instr) : (acceptCommand c s).mode = s.mode := rfl
@[simp] theorem acceptCommand_cursor (c : Instr) : (acceptCommand c s).cursor = s.cursor := rfl
@[simp] theorem acceptCommand_fb (c : Instr) : (acceptCommand c s).fb = s.fb := rfl
@[simp] theorem acceptCommand_xb (c : Instr) : (acceptCommand c s).xb = s.xb := rfl
@[simp] theorem acceptCommand_crc (c : Instr) : (acceptCommand c s).crc = s.crc := rfl
@[simp] theorem acceptCommand_faultReason (c : Instr) : (acceptCommand c s).faultReason = s.faultReason := rfl
@[simp] theorem acceptCommand_lines (c : Instr) : (acceptCommand c s).lines = s.lines := rfl
@[simp] theorem acceptCommand_ddir (c : Instr) : (acceptCommand c s).ddir = s.ddir := rfl
@[simp] theorem acceptCommand_dout (c : Instr) : (acceptCommand c s).dout = s.dout := rfl
@[simp] theorem acceptCommand_nOE (c : Instr) : (acceptCommand c s).nOE = s.nOE := rfl
@[simp] theorem acceptCommand_nWE (c : Instr) : (acceptCommand c s).nWE = s.nWE := rfl
@[simp] theorem acceptCommand_ind (c : Instr) : (acceptCommand c s).ind = s.ind := rfl
@[simp] theorem acceptCommand_rxq (c : Instr) : (acceptCommand c s).rxq = s.rxq := rfl
@[simp] theorem acceptCommand_txq (c : Instr) : (acceptCommand c s).txq = s.txq := rfl
@[simp] theorem acceptCommand_evt (c : Instr) : (acceptCommand c s).evt = s.evt := rfl
@[simp] theorem acceptCommand_turns (c : Instr) : (acceptCommand c s).turns = s.turns := rfl
@[simp] theorem acceptCommand_draws (c : Instr) : (acceptCommand c s).draws = s.draws := rfl

/-! ### `routeBlock` -/

@[simp] theorem routeBlock_cmd (m : Mode) (p : Phase) : (routeBlock m p s).cmd = s.cmd := rfl
@[simp] theorem routeBlock_phase (m : Mode) (p : Phase) : (routeBlock m p s).phase = p := rfl
@[simp] theorem routeBlock_i (m : Mode) (p : Phase) : (routeBlock m p s).i = s.i := rfl
@[simp] theorem routeBlock_start (m : Mode) (p : Phase) : (routeBlock m p s).start = s.start := rfl
@[simp] theorem routeBlock_mode (m : Mode) (p : Phase) : (routeBlock m p s).mode = m := rfl
@[simp] theorem routeBlock_cursor (m : Mode) (p : Phase) : (routeBlock m p s).cursor = s.cursor := rfl
@[simp] theorem routeBlock_fb (m : Mode) (p : Phase) : (routeBlock m p s).fb = s.fb := rfl
@[simp] theorem routeBlock_xb (m : Mode) (p : Phase) : (routeBlock m p s).xb = s.xb := rfl
@[simp] theorem routeBlock_crc (m : Mode) (p : Phase) : (routeBlock m p s).crc = s.crc := rfl
@[simp] theorem routeBlock_faultReason (m : Mode) (p : Phase) : (routeBlock m p s).faultReason = s.faultReason := rfl
@[simp] theorem routeBlock_lines (m : Mode) (p : Phase) : (routeBlock m p s).lines = s.lines := rfl
@[simp] theorem routeBlock_ddir (m : Mode) (p : Phase) : (routeBlock m p s).ddir = s.ddir := rfl
@[simp] theorem routeBlock_dout (m : Mode) (p : Phase) : (routeBlock m p s).dout = s.dout := rfl
@[simp] theorem routeBlock_nOE (m : Mode) (p : Phase) : (routeBlock m p s).nOE = s.nOE := rfl
@[simp] theorem routeBlock_nWE (m : Mode) (p : Phase) : (routeBlock m p s).nWE = s.nWE := rfl
@[simp] theorem routeBlock_ind (m : Mode) (p : Phase) : (routeBlock m p s).ind = s.ind := rfl
@[simp] theorem routeBlock_rxq (m : Mode) (p : Phase) : (routeBlock m p s).rxq = s.rxq := rfl
@[simp] theorem routeBlock_txq (m : Mode) (p : Phase) : (routeBlock m p s).txq = s.txq := rfl
@[simp] theorem routeBlock_evt (m : Mode) (p : Phase) : (routeBlock m p s).evt = s.evt := rfl
@[simp] theorem routeBlock_turns (m : Mode) (p : Phase) : (routeBlock m p s).turns = s.turns := rfl
@[simp] theorem routeBlock_draws (m : Mode) (p : Phase) : (routeBlock m p s).draws = s.draws := rfl

/-! ### `completeStep` -/

@[simp] theorem completeStep_cmd : (completeStep s).cmd = none := rfl
@[simp] theorem completeStep_phase : (completeStep s).phase = .idle := rfl
@[simp] theorem completeStep_i : (completeStep s).i = s.i := rfl
@[simp] theorem completeStep_start : (completeStep s).start = s.start := rfl
@[simp] theorem completeStep_mode : (completeStep s).mode = s.mode := rfl
@[simp] theorem completeStep_cursor : (completeStep s).cursor = s.cursor := rfl
@[simp] theorem completeStep_fb : (completeStep s).fb = [] := rfl
@[simp] theorem completeStep_xb : (completeStep s).xb = s.xb := rfl
@[simp] theorem completeStep_crc : (completeStep s).crc = s.crc := rfl
@[simp] theorem completeStep_faultReason : (completeStep s).faultReason = s.faultReason := rfl
@[simp] theorem completeStep_lines : (completeStep s).lines = s.lines := rfl
@[simp] theorem completeStep_ddir : (completeStep s).ddir = s.ddir := rfl
@[simp] theorem completeStep_dout : (completeStep s).dout = s.dout := rfl
@[simp] theorem completeStep_nOE : (completeStep s).nOE = s.nOE := rfl
@[simp] theorem completeStep_nWE : (completeStep s).nWE = s.nWE := rfl
@[simp] theorem completeStep_ind : (completeStep s).ind = s.ind := rfl
@[simp] theorem completeStep_rxq : (completeStep s).rxq = s.rxq := rfl
@[simp] theorem completeStep_txq : (completeStep s).txq = s.txq := rfl
@[simp] theorem completeStep_evt : (completeStep s).evt = s.evt := rfl
@[simp] theorem completeStep_turns : (completeStep s).turns = s.turns := rfl
@[simp] theorem completeStep_draws : (completeStep s).draws = s.draws := rfl

end Sys2Proof.Machine
end

