-- ==== Sys2Proof/Laws/Ops.lean ====
section
/-! SUPPORT. For each shared operation, once, everything it can do: provers cite these instead of unfolding. -/

namespace Sys2Proof.Machine

/-- Sending a list appends it to the transmit queue and its `TX` events to the trace. -/
theorem txSendAll_eq (bytes : List Byte) (s : State) :
    txSendAll bytes s = { s with txq := s.txq ++ bytes, evt := s.evt ++ bytes.map Event.tx } := by
  induction bytes generalizing s with
  | nil => simp [txSendAll]
  | cons b bs ih =>
    have h : txSendAll (b :: bs) s = txSendAll bs (txSend b s) := rfl
    rw [h, ih]
    simp [txSend, record]

/-- `RD_SEND` as one record update (R155): the trailer is that of the block's checksum, and what `crc` holds
afterwards is a free value. -/
theorem rdSend_eq (s : State) :
    rdSend s = { s with
      txq := s.txq ++ (s.xb.toList ++ trailer (crc32 s.xb.toList 512)), crc := Config.crcLeft s.draws,
      draws := s.draws + 1, cursor := advancedCursor s.cursor, phase := .complete,
      evt := s.evt ++ ((s.xb.toList ++ trailer (crc32 s.xb.toList 512)).map .tx ++ [.ind .pulse]) } := by
  simp [rdSend, txSendAll_eq, runChecksum, setCrc, sendTrailer, dropChecksum, advanceCursor, setCursor, indicate, record,
    setPhase, crc32, Config.block]

/-- What the target sees of the data lines: nothing of `DOUT` while they are inputs (R24). -/
theorem drivenData_of_input (s : State) (h : s.ddir = .input) : drivenData s = none := by
  simp [drivenData, h]

theorem drivenData_of_output (s : State) (h : s.ddir = .output) : drivenData s = some s.dout := by
  simp [drivenData, h]

/-- Fault entry as one record update (R211). -/
theorem raise_eq (r : FaultReason) (s : State) :
    raise r s = { s with
      faultReason := some r, ind := .fault, phase := .faulted, evt := s.evt ++ [.ind .fault, .fault r] } := by
  simp [raise, indicate, record, setPhase]

/-- A store below the last index. -/
theorem storeByte_of_lt (b : Byte) (atEnd : State → State) (s : State) (h : s.i.toNat < 511) :
    storeByte b atEnd s =
      { s with xb := s.xb.set s.i.toNat b (by simp only [Config.xbCap]; omega), i := s.i + 1#10 } := by
  have hlt : s.i.toNat < Config.xbCap := by simp only [Config.xbCap]; omega
  have hne : s.i + 1#10 ≠ 512#10 := by
    intro h'
    have := congrArg BitVec.toNat h'
    simp [BitVec.toNat_add] at this
    omega
  simp [storeByte, hlt, hne]

/-- The store at the last index ends the loop. -/
theorem storeByte_of_last (b : Byte) (atEnd : State → State) (s : State) (h : s.i = 511#10) :
    storeByte b atEnd s =
      atEnd { s with xb := s.xb.set 511 b (by simp [Config.xbCap]), i := 512#10 } := by
  simp [storeByte, h, Config.xbCap]

/-- A store beyond the buffer faults (R20). -/
theorem storeByte_of_ge (b : Byte) (atEnd : State → State) (s : State) (h : 512 ≤ s.i.toNat) :
    storeByte b atEnd s = raise .xbufOverflow s := by
  have hn : ¬ s.i.toNat < Config.xbCap := by simp only [Config.xbCap]; omega
  simp [storeByte, hn]

/-- The range check, without the 17-bit sum (R151, R172). -/
theorem rangeViolated_iff (start : Addr) : rangeViolated start = true ↔ 32256 < start.toNat := by
  have h := start.isLt
  simp only [rangeViolated, decide_eq_true_eq, BitVec.toNat_add, BitVec.toNat_setWidth, BitVec.toNat_ofNat, Config.bound]
  omega

/-- Every meaning is one step of its command, with its own row of the dispatch table (R102). -/
def routeOf : Instr → State → State
  | .ping => setPhase .ping
  | .start => setPhase .session
  | .read => routeBlock .eeprom .rdCheck
  | .readm => routeBlock .mask .rdCheck
  | .write => routeBlock .eeprom .wrSetup

theorem exec_eq_commandStep (i : Instr) (s : State) : exec i s = commandStep i (routeOf i) s := by
  cases i <;> rfl

/-- The engine's turn in terms of `fetch`. -/
theorem step_of_engineNext (s : State) (h : s.engineNext = true) :
    step s = match fetch s.afterTurn with
      | .run i u => exec i u
      | .stay u => .next u
      | .stop f => .fault f := by
  obtain ht | ⟨ts, ht⟩ : s.turns = [] ∨ ∃ ts, s.turns = .engine :: ts := by
    unfold State.engineNext at h
    split at h
    · exact .inl ‹_›
    · exact .inr ⟨_, ‹_›⟩
    · cases h
  · have hs : s.afterTurn = s := by cases s; simp_all [State.afterTurn]
    simp [step, takeTurn, ht, hs] <;> rfl
  · simp [step, takeTurn, ht, State.afterTurn] <;> rfl

/-- From `DISPATCH` to `COMPLETE` the engine's turn runs the command in the slot. -/
theorem fetch_inFlight (s : State) (i : Instr) (hc : s.cmd = some i) (h1 : s.phase ≠ .idle)
    (h2 : s.phase ≠ .faulted) : fetch s = .run i s := by
  unfold fetch inFlight
  split <;> simp_all

end Sys2Proof.Machine
end

