-- ==== Sys2Proof/Laws/Exec.lean ====
section
/-! SUPPORT. One inversion lemma for `exec`: everything one engine step of a command can do, phase by phase
(`StepEffect`), so that whole-machine rules are proved by cases on it and unfold no meaning again. -/

namespace Sys2Proof.Machine

theorem outcome_next_inj {s t : State} (h : (Host.Outcome.next s : Host.Outcome State Fault Refusal) = .next t) :
    s = t := Host.Outcome.next.inj h

/-- The state after a fault with `r` whose step had recorded `es` before the raise (R211). -/
def faultedAfter (r : FaultReason) (es : List Event) (s : State) : State :=
  { s with faultReason := some r, ind := .fault, phase := .faulted, evt := s.evt ++ es ++ [.ind .fault, .fault r] }

/-- `xb` differs from `old` at index `j` at most. -/
def sameBut (j : Nat) (xb old : Vector Byte Config.xbCap) : Prop :=
  ∀ (k : Nat) (h : k < Config.xbCap), k ≠ j → xb[k] = old[k]

/-- What one engine step of the command `k` leaves, by the phase it starts in. -/
def StepEffect (k : Instr) (s t : State) : Prop :=
  match s.phase with
  | .idle => t = { s with cmd := some k, phase := .dispatch }
  | .dispatch => t = routeOf k s
  | .ping =>
    t = { s with
      txq := s.txq ++ [0x50#8, 0x4F#8, 0x4E#8, 0x47#8], phase := .complete,
      evt := s.evt ++ [.tx 0x50#8, .tx 0x4F#8, .tx 0x4E#8, .tx 0x47#8, .ind .pulse] }
  | .session => t = { s with cursor := 0x0000#16, phase := .complete, evt := s.evt ++ [.ind .pulse] }
  | .rdCheck =>
    (s.cursor.toNat ≤ 32256 ∧ s.mode = .mask ∧ t = { s with start := s.cursor, phase := .rdSetup }) ∨
    (∃ r, t = faultedAfter r [] { s with start := s.cursor })
  | .rdSetup =>
    t = { s with
      ddir := .input, nOE := Level.high, i := 0#10, phase := .rdLoop,
      evt := s.evt ++ [.ddir .input, .oe Level.high, .delay .rdPre] }
  | .rdLoop =>
    ∃ b, let es := [.lines (driveLines (cycleAddr s) .mask s.lines), .oe Level.low, .delay .rdSettle, .sample b,
          .oe Level.high]
      (∃ xb p, sameBut s.i.toNat xb s.xb ∧ (p = .rdLoop ∨ p = .rdPost) ∧
        t = { s with
          lines := driveLines (cycleAddr s) .mask s.lines, nOE := Level.high, xb := xb, i := s.i + 1#10, phase := p,
          evt := s.evt ++ es }) ∨
      t = faultedAfter .xbufOverflow es
        { s with lines := driveLines (cycleAddr s) .mask s.lines, nOE := Level.high }
  | .rdPost => t = { s with phase := .rdSend, evt := s.evt ++ [.delay .rdPost] }
  | .rdSend =>
    let reply := s.xb.toList ++ trailer (crc32 s.xb.toList 512)
    t = { s with
      txq := s.txq ++ reply, crc := Config.crcLeft s.draws, draws := s.draws + 1,
      cursor := advancedCursor s.cursor, phase := .complete,
      evt := s.evt ++ (reply.map .tx ++ [.ind .pulse]) }
  | .wrSetup =>
    t = { s with
      start := s.cursor, ddir := .output, nOE := Level.high, nWE := Level.high, phase := .wrCheck,
      evt := s.evt ++ [.ddir .output, .oe Level.high, .we Level.high] }
  | .wrCheck =>
    (s.start.toNat ≤ 32256 ∧ t = { s with i := 0#10, phase := .wrRecv }) ∨ t = faultedAfter .rangeWrite [] s
  | .wrRecv =>
    (s.rxq = [] ∧ t = s) ∨
    (∃ p ps, s.rxq = p :: ps ∧
      ((∃ xb i ph, sameBut s.i.toNat xb s.xb ∧ (ph = .wrRecv ∨ ph = .wrLoop) ∧
        t = { s with
          rxq := dropHeadByte p ps, xb := xb, i := i, phase := ph, evt := s.evt ++ [.rx [p.first]] }) ∨
       t = faultedAfter .xbufOverflow [.rx [p.first]] { s with rxq := dropHeadByte p ps }))
  | .wrLoop =>
    s.mode = .eeprom ∧
    ((∃ b p, (p = .wrLoop ∨ p = .wrAck) ∧
      t = { s with
        lines := driveLines (cycleAddr s) .eeprom s.lines, dout := b, nWE := Level.high, i := s.i + 1#10, phase := p,
        evt := s.evt ++ [.lines (driveLines (cycleAddr s) .eeprom s.lines), .dout b, .we Level.low,
          .we Level.high, .delay .wrCycle] }) ∨
     t = faultedAfter .xbufOverflow [.lines (driveLines (cycleAddr s) .eeprom s.lines)]
        { s with lines := driveLines (cycleAddr s) .eeprom s.lines })
  | .wrAck =>
    t = { s with
      txq := s.txq ++ [0x42#8], cursor := advancedCursor s.cursor, phase := .complete,
      evt := s.evt ++ [.tx 0x42#8, .ind .pulse] }
  | .complete => t = { s with cmd := none, fb := [], phase := .idle }
  | .faulted => False

/-- A store into the transfer buffer writes the byte at `i` and steps the index, or faults. -/
theorem storeByte_cases (b : Byte) (atEnd : State → State) (s : State) :
    (∃ xb, sameBut s.i.toNat xb s.xb ∧
      (storeByte b atEnd s = { s with xb := xb, i := s.i + 1#10 } ∨
       storeByte b atEnd s = atEnd { s with xb := xb, i := s.i + 1#10 })) ∨
    storeByte b atEnd s = raise .xbufOverflow s := by
  unfold storeByte
  split
  · refine .inl ⟨s.xb.set s.i.toNat b ‹_›, ?_, ?_⟩
    · intro k hk hne
      exact Vector.getElem_set_ne _ _ (Ne.symm hne)
    · by_cases h : s.i + 1#10 = 512#10 <;> simp [h]
  · exact .inr rfl

theorem rdCheck_effect (s : State) :
    (s.cursor.toNat ≤ 32256 ∧ s.mode = .mask ∧ rdCheck s = { s with start := s.cursor, phase := .rdSetup }) ∨
    (∃ r, rdCheck s = faultedAfter r [] { s with start := s.cursor }) := by
  have hr := rangeViolated_iff s.cursor
  unfold rdCheck
  by_cases h : rangeViolated s.cursor = true
  · exact .inr ⟨.rangeRead, by simp [h, raise_eq, faultedAfter]⟩
  · by_cases hm : s.mode = .mask
    · exact .inl ⟨by rw [hr] at h; omega, hm, by simp [h, modeViolated, hm, setPhase]⟩
    · exact .inr ⟨.mode, by simp [h, modeViolated, hm, raise_eq, faultedAfter]⟩

theorem wrLoop_effect (s t : State) (h : wrLoop s = .next t) :
    s.mode = .eeprom ∧
    ((∃ b p, (p = s.phase ∨ p = .wrAck) ∧
      t = { s with
        lines := driveLines (cycleAddr s) .eeprom s.lines, dout := b, nWE := Level.high, i := s.i + 1#10, phase := p,
        evt := s.evt ++ [.lines (driveLines (cycleAddr s) .eeprom s.lines), .dout b, .we Level.low,
          .we Level.high, .delay .wrCycle] }) ∨
     t = faultedAfter .xbufOverflow [.lines (driveLines (cycleAddr s) .eeprom s.lines)]
        { s with lines := driveLines (cycleAddr s) .eeprom s.lines }) := by
  unfold wrLoop at h
  split at h
  · cases h
  · refine ⟨‹_›, ?_⟩
    simp only at h
    split at h
    · have hlt : s.i.toNat < Config.xbCap := ‹_›
      have h := outcome_next_inj h
      simp only [writeStrobe, nextWriteIndex] at h
      by_cases hi : s.i + 1#10 = 512#10
      · exact .inl ⟨s.xb[s.i.toNat], .wrAck, .inr rfl,
          by rw [← h]; simp [hi, setDout, drive, setWE, delay, record, setPhase]⟩
      · exact .inl ⟨s.xb[s.i.toNat], s.phase, .inl rfl,
          by rw [← h]; simp [hi, setDout, drive, setWE, delay, record]⟩
    · exact .inr (by rw [← outcome_next_inj h, raise_eq]; simp [faultedAfter, drive, record])

/-- Everything an engine step of a command can do. -/
theorem exec_effect (k : Instr) (s t : State) (h : exec k s = .next t) : StepEffect k s t := by
  rw [exec_eq_commandStep] at h
  unfold commandStep at h
  unfold StepEffect
  cases hp : s.phase <;> simp only [hp] at h ⊢
  case wrLoop =>
    obtain ⟨hm, ⟨b, p, hpp, rfl⟩ | rfl⟩ := wrLoop_effect s t h
    · exact ⟨hm, .inl ⟨b, p, by simpa [hp] using hpp, rfl⟩⟩
    · exact ⟨hm, .inr rfl⟩
  case faulted => cases h
  all_goals obtain rfl := outcome_next_inj h
  case idle => rfl
  case dispatch => rfl
  case ping => simp [pingStep, txSendAll_eq, indicate, record, setPhase]
  case session => simp [sessionStep, setCursor, indicate, record, setPhase]
  case rdCheck => exact rdCheck_effect s
  case rdSetup => simp [rdSetup, setDdir, setOE, delay, record]
  case rdLoop =>
    refine ⟨busSample (readAccess s), ?_⟩
    unfold rdLoop
    rcases storeByte_cases (busSample (readAccess s)) (setPhase .rdPost)
      (setOE Level.high (record (.sample (busSample (readAccess s))) (readAccess s))) with ⟨xb, hxb, h | h⟩ | h
    · refine .inl ⟨xb, .rdLoop, by simpa [readAccess] using hxb, .inl rfl, ?_⟩
      simp only [h]
      simp [readAccess, setOE, drive, delay, record, hp]
    · refine .inl ⟨xb, .rdPost, by simpa [readAccess] using hxb, .inr rfl, ?_⟩
      simp only [h]
      simp [readAccess, setOE, drive, delay, record, setPhase]
    · refine .inr ?_
      simp only [h, raise_eq]
      simp [readAccess, setOE, drive, delay, record, faultedAfter]
  case rdPost => simp [rdPost, delay, record, setPhase]
  case rdSend =>
    simp [rdSend_eq]
  case wrSetup => simp [wrSetup, setDdir, setOE, setWE, record, setPhase]
  case wrCheck =>
    have hr := rangeViolated_iff s.start
    unfold wrCheck
    by_cases h : rangeViolated s.start = true
    · exact .inr (by simp [h, raise_eq, faultedAfter])
    · exact .inl ⟨by rw [hr] at h; omega, by simp [h]⟩
  case wrRecv =>
    unfold wrRecv
    cases hr : s.rxq with
    | nil => exact .inl ⟨rfl, rfl⟩
    | cons p ps =>
      refine .inr ⟨p, ps, rfl, ?_⟩
      simp only
      rcases storeByte_cases p.first (fun t => { t with i := 0#10, phase := .wrLoop }) (rxTakeByte p ps s) with
        ⟨xb, hxb, h | h⟩ | h
      · exact .inl ⟨xb, s.i + 1#10, .wrRecv, by simpa using hxb, .inl rfl,
          by rw [h]; simp [rxTakeByte, record, hp]⟩
      · exact .inl ⟨xb, 0#10, .wrLoop, by simpa using hxb, .inr rfl, by rw [h]; simp [rxTakeByte, record]⟩
      · exact .inr (by rw [h, raise_eq]; simp [rxTakeByte, record, faultedAfter])
  case wrAck => simp [wrAck, txSend, advanceCursor, setCursor, indicate, record, setPhase]
  case complete => rfl

end Sys2Proof.Machine
end

