-- ==== Sys2Proof/Laws/PerInstr.lean ====
section
/-! SUPPORT. Statements made per instruction, about its syntax. -/

namespace Sys2Proof.Laws.Code

/-- The code of a command is the ordinal its slot holds, in 1..5, and selects the command; its frame is the prefix and
the code (R14, R70, R72). -/
def Statement (i : Instr) : Prop :=
  i.wf = true ∧ encode i = [0x42#8, i.code] ∧ i.code.toNat = (slotCode (some i)).toNat ∧
  1 ≤ i.code.toNat ∧ i.code.toNat ≤ 5 ∧ codeToInstr i.code = some i

theorem ping : Statement .ping := by unfold Statement; decide
theorem start : Statement .start := by unfold Statement; decide
theorem read : Statement .read := by unfold Statement; decide
theorem readm : Statement .readm := by unfold Statement; decide
theorem write : Statement .write := by unfold Statement; decide

end Sys2Proof.Laws.Code
end

