-- ==== Sys2Proof/Laws/Step.lean ====
section
/-! SUPPORT. Inversion lemmas for `fetch` and `step`: what an engine turn, a host turn and a power cycle can do. -/

namespace Sys2Proof.Machine

/-- The state in which a polled packet has been taken into the frame buffer (R100). -/
def afterPoll (p : Packet) (ps : List Packet) (s : State) : State :=
  { s with rxq := ps, fb := s.fb ++ p.bytes, evt := s.evt ++ [.rx p.bytes] }

/-- A turn in which no instruction runs: the engine is idle, and it holds, faults on the packet, or keeps its bytes. -/
theorem fetch_stay (s u : State) (h : fetch s = .stay u) :
    s.phase = .idle ∧
    ((s.rxq = [] ∧ u = s) ∨
     ∃ p ps, s.rxq = p :: ps ∧
      ((Config.frameCap < s.fbLen + p.bytes.length ∧ u = faultedAfter .frameOverflow [.rx p.bytes] { s with rxq := ps }) ∨
       (s.fbLen + p.bytes.length ≤ Config.frameCap ∧ s.cmd = none ∧ u = faultedAfter .badCommand [] (afterPoll p ps s)) ∨
       (s.fbLen + p.bytes.length ≤ Config.frameCap ∧
        (s.cmd = none → decode (s.fb ++ p.bytes) = .incomplete ∨ decode (s.fb ++ p.bytes) = .notPrefixed) ∧
        u = afterPoll p ps s))) := by
  have hp : s.phase = .idle := by
    unfold fetch at h
    split at h <;> first | assumption | contradiction | (unfold inFlight at h; split at h <;> cases h)
  refine ⟨hp, ?_⟩
  simp only [fetch, hp, poll] at h
  split at h
  · exact .inl ⟨‹_›, (Fetched.stay.inj h).symm⟩
  · rename_i p ps hr
    refine .inr ⟨p, ps, hr, ?_⟩
    split at h
    · refine .inl ⟨?_, ?_⟩
      · have hf := ‹frameOverflows _ _ = true›
        rw [frameOverflows, decide_eq_true_eq] at hf
        exact hf
      · rw [← Fetched.stay.inj h, raise_eq]
        simp [faultedAfter, rxTakePacket, record]
    · refine .inr ?_
      have hle : s.fbLen + p.bytes.length ≤ Config.frameCap := by
        have hf := ‹¬ frameOverflows _ _ = true›
        rw [frameOverflows, decide_eq_true_eq] at hf
        simp only [State.fbLen, rxTakePacket_fb] at hf ⊢
        omega
      unfold recognise at h
      split at h
      · have hc : s.cmd = none := ‹_›
        split at h
        · cases h
        · exact .inl ⟨hle, hc, by rw [← Fetched.stay.inj h, raise_eq]; simp [faultedAfter, afterPoll, rxTakePacket, record]⟩
        · exact .inr ⟨hle, fun _ => .inr ‹_›, (Fetched.stay.inj h).symm⟩
        · exact .inr ⟨hle, fun _ => .inl ‹_›, (Fetched.stay.inj h).symm⟩
      · exact .inr ⟨hle, fun hc => absurd hc ‹_›, (Fetched.stay.inj h).symm⟩

/-- A turn that runs an instruction: one that was just recognised, or the one in flight. -/
theorem fetch_run (s u : State) (i : Instr) (h : fetch s = .run i u) :
    (s.phase = .idle ∧ s.cmd = none ∧ ∃ p ps, s.rxq = p :: ps ∧ s.fbLen + p.bytes.length ≤ Config.frameCap ∧
      decode (s.fb ++ p.bytes) = .instr i ∧ u = afterPoll p ps s) ∨
    (s.phase ≠ .idle ∧ s.phase ≠ .faulted ∧ s.cmd = some i ∧ u = s) := by
  by_cases hp : s.phase = .idle
  · refine .inl ⟨hp, ?_⟩
    simp only [fetch, hp, poll] at h
    split at h
    · cases h
    · rename_i p ps hr
      split at h
      · cases h
      · have hle : s.fbLen + p.bytes.length ≤ Config.frameCap := by
          have hf := ‹¬ frameOverflows _ _ = true›
          rw [frameOverflows, decide_eq_true_eq] at hf
          simp only [State.fbLen, rxTakePacket_fb] at hf ⊢
          omega
        unfold recognise at h
        split at h
        · have hc : s.cmd = none := ‹_›
          split at h
          · obtain ⟨rfl, rfl⟩ := Fetched.run.inj h
            exact ⟨hc, p, ps, hr, hle, ‹_›, rfl⟩
          all_goals cases h
        · cases h
  · refine .inr ⟨hp, ?_⟩
    unfold fetch at h
    split at h <;> first | contradiction | (unfold inFlight at h; split at h <;> simp_all)

/-- An engine turn that answers a next state. -/
theorem step_engine (s t : State) (he : s.engineNext = true) (h : step s = .next t) :
    fetch s.afterTurn = .stay t ∨ ∃ i u, fetch s.afterTurn = .run i u ∧ exec i u = .next t := by
  rw [step_of_engineNext s he] at h
  split at h
  · exact .inr ⟨_, _, ‹_›, h⟩
  · exact .inl (outcome_next_inj h ▸ ‹_›)
  · cases h

/-- A turn of the environment. -/
theorem step_environment (s t : State) (he : s.engineNext = false) (h : step s = .next t) :
    (∃ p, t = { s with turns := s.turns.tail, rxq := s.rxq ++ [p] }) ∨
    t = { s with turns := s.turns.tail, txq := s.txq.drop 1 } ∨
    (s.powerCycleNext = true ∧ ∃ waiting, t = State.boot (s.draws + 1) waiting s.evt s.turns.tail) := by
  unfold step takeTurn at h
  unfold State.engineNext at he
  unfold State.powerCycleNext
  rcases ht : s.turns with _ | ⟨_ | p | _ | w, ts⟩ <;> simp only [ht] at h he ⊢
  · cases he
  · cases he
  · exact .inl ⟨p, (outcome_next_inj h).symm⟩
  · exact .inr (.inl (outcome_next_inj h).symm)
  · exact .inr (.inr ⟨trivial, w, (outcome_next_inj h).symm⟩)

end Sys2Proof.Machine
end

