-- ==== Sys2Proof/Laws/Run.lean ====
section
/-! SUPPORT. Runs of several steps: one step more, and runs put together. -/

namespace Sys2Proof.Machine

/-- A run whose first step answers a next state. -/
theorem run_succ_of_next (n : Nat) (s t : State) (h : step s = .next t) :
    Host.Core.run core (n + 1) s = Host.Core.run core n t := by
  have h' : core.step s = .next t := h
  simp only [Host.Core.run]
  rw [h']

/-- A run of `m + n` steps whose first `m` answer a next state. -/
theorem run_add_of_next (m n : Nat) (s t : State) (h : Host.Core.run core m s = .next t) :
    Host.Core.run core (m + n) s = Host.Core.run core n t := by
  induction m generalizing s with
  | zero =>
    obtain rfl := outcome_next_inj h
    rw [Nat.zero_add]
  | succ m ih =>
    rw [Nat.succ_add]
    cases hs : step s with
    | next u => rw [run_succ_of_next _ s u hs] at h ⊢; exact ih u h
    | fault r =>
      have hs' : core.step s = .fault r := hs
      simp only [Host.Core.run] at h
      rw [hs'] at h
      cases h
    | refused r =>
      have hs' : core.step s = .refused r := hs
      simp only [Host.Core.run] at h
      rw [hs'] at h
      cases h

end Sys2Proof.Machine
end

