-- ==== Sys2Proof/Tests/Slice0.lean ====
section
/-! SUPPORT. Small tests, each expected value taken from spec/ (the table of spec/30_encoding.md R72, the vectors of
spec/95_test_vectors.md, the examples of the rules), and one witness for the hypotheses of each statement. -/

namespace Sys2Proof.Tests
open Sys2Proof.Machine

/-- The reset state put into a phase with a command in the slot whose frame the buffer holds. -/
def inPhase (p : Phase) (i : Instr) : State := { State.reset with phase := p, cmd := some i, fb := encode i }

/-- Whether an outcome is a next state that satisfies a check. -/
def nextSat (o : Host.Outcome State Fault Refusal) (check : State → Bool) : Bool :=
  match o with
  | .next t => check t
  | .fault _ => false
  | .refused _ => false

/-! ### Well-formedness smoke test -/

theorem test_wf_refuses_empty_data : (HostLine.data []).wf = false := by decide
theorem test_wf_refuses_empty_raw : (HostLine.raw []).wf = false := by decide
theorem test_wf_refuses_short_data512 : (HostLine.data512 (List.replicate 511 0#8)).wf = false := by
  rw [HostLine.wf, List.length_replicate]; rfl
theorem test_wf_accepts_commands : Instr.wf .ping && Instr.wf .start && Instr.wf .read && Instr.wf .readm &&
    Instr.wf .write = true := by decide

/-! ### Decoding: the words of R72, bit by bit -/

theorem test_decode_ping : decodeTableWord 16 0b0100001000000001 = some .ping := by decide
theorem test_decode_start : decodeTableWord 16 0b0100001000000010 = some .start := by decide
theorem test_decode_read : decodeTableWord 16 0b0100001000000011 = some .read := by decide
theorem test_decode_readm : decodeTableWord 16 0b0100001000000100 = some .readm := by decide
theorem test_decode_write : decodeTableWord 16 0b0100001000000101 = some .write := by decide
/-- R73: 0x00, 0x06 and 0xFF are no commands. -/
theorem test_decode_illegal : decode [0x42#8, 0x00#8] = .badCommand 0#8 ∧ decode [0x42#8, 0x06#8] = .badCommand 6#8 ∧
    decode [0x42#8, 0xFF#8] = .badCommand 255#8 := by decide
/-- R14: 3 bits, values 6 and 7 never occur. -/
theorem test_slot_codes : ∀ c ∈ [none, some Instr.ping, some .start, some .read, some .readm, some .write],
    (slotCode c).toNat < 6 := by decide
/-- R212: the numbers of the reasons. -/
theorem test_fault_numbers : [FaultReason.frameOverflow, .badCommand, .rangeRead, .mode, .rangeWrite, .xbufOverflow].map
    FaultReason.number = [1, 2, 3, 4, 5, 6] := by decide

/-! ### Dispatcher (L2.1) -/

theorem test_poll_frame :
    nextSat (step { State.reset with rxq := [framePacket .readm] })
      (fun t => decide (t.cmd = some .readm ∧ t.phase = .dispatch ∧ t.rxq = [])) = true := by decide
theorem test_poll_two_packets :
    nextSat (Host.Core.run core 2 { State.reset with rxq := [⟨0x42#8, []⟩, ⟨0x01#8, []⟩] })
      (fun t => decide (t.cmd = some .ping ∧ t.phase = .dispatch)) = true := by decide
theorem test_poll_not_prefixed :
    nextSat (step { State.reset with rxq := [⟨0x43#8, [0x01#8]⟩] })
      (fun t => decide (t.cmd = none ∧ t.phase = .idle ∧ t.fb = [0x43#8, 0x01#8])) = true := by decide
theorem test_poll_illegal_code :
    nextSat (step { State.reset with rxq := [⟨0x42#8, [0x07#8]⟩] })
      (fun t => decide (t.phase = .faulted ∧ t.faultReason = some .badCommand ∧ t.cmd = none ∧ t.ind = .fault)) =
      true := by decide
theorem test_reset_word_runs :
    nextSat (step (State.reset.withFetchWord 16 0x4205))
      (fun t => decide (t.cmd = some .write ∧ t.phase = .dispatch)) = true := by decide
/-- R8, R52: a host turn between two engine turns. -/
theorem test_host_turn_between :
    nextSat (Host.Core.run core 3 { State.reset with turns := [.engine, .hostSend (framePacket .start), .engine] })
      (fun t => decide (t.cmd = some .start ∧ t.evt = [.rx [0x42#8, 0x02#8]])) = true := by decide

/-! ### Commands -/

/-- R24, D31: `DOUT` is on the data lines only when they are outputs. -/
theorem test_dout_driven_only_out :
    drivenData { State.reset with dout := 0xA5#8, ddir := .input } = none ∧
    drivenData { State.reset with dout := 0xA5#8, ddir := .output } = some 0xA5#8 := by decide

theorem test_ping : nextSat (exec .ping (inPhase .ping .ping))
    (fun t => decide (t.txq = [0x50#8, 0x4F#8, 0x4E#8, 0x47#8] ∧ t.phase = .complete)) = true := by decide
theorem test_start : nextSat (exec .start { inPhase .session .start with cursor := 0x8000#16 })
    (fun t => decide (t.cursor = 0#16 ∧ t.txq = [] ∧ t.evt = [.ind .pulse])) = true := by decide
theorem test_read_mode : nextSat (exec .read { inPhase .rdCheck .read with cursor := 0#16, mode := .eeprom })
    (fun t => decide (t.faultReason = some .mode ∧ t.evt = [.ind .fault, .fault .mode])) = true := by decide
theorem test_read_range : nextSat (exec .read { inPhase .rdCheck .read with cursor := 0x8000#16, mode := .eeprom })
    (fun t => decide (t.faultReason = some .rangeRead)) = true := by decide
/-- L2.4: 0xFFFF faults, the 17-bit sum does not wrap. -/
theorem test_readm_no_wrap : nextSat (exec .readm { inPhase .rdCheck .readm with cursor := 0xFFFF#16 })
    (fun t => decide (t.faultReason = some .rangeRead ∧ t.phase = .faulted)) = true := by decide
/-- Example of R153: `start = 0x4000`, `i = 0`. -/
theorem test_readm_cycle : nextSat (exec .readm { inPhase .rdLoop .readm with start := 0x4000#16, i := 0#10 })
    (fun t => decide (t.lines.vsel = true ∧ t.lines.ha = true ∧ t.lines.pa = 0#8 ∧ t.i = 1#10 ∧ t.nOE = true ∧
      t.evt.length = 5)) = true := by decide
/-- L2.5: one write cycle at 0x4000 with 0xA5. -/
theorem test_write_cycle :
    nextSat (exec .write { inPhase .wrLoop .write with
        start := 0x4000#16, i := 0#10, mode := .eeprom, xb := Vector.replicate 512 0xA5#8 })
      (fun t => decide (t.lines.ex = true ∧ t.dout = 0xA5#8 ∧ t.nWE = true ∧
        t.evt.drop 1 = [.dout 0xA5#8, .we false, .we true, .delay .wrCycle])) = true := by decide
/-- P7: a data byte is taken and the engine goes on waiting. -/
theorem test_write_receive :
    nextSat (exec .write { inPhase .wrRecv .write with i := 2#10, rxq := [⟨0x33#8, [0x44#8]⟩] })
      (fun t => decide (t.i = 3#10 ∧ t.rxq = [⟨0x44#8, []⟩] ∧ t.phase = .wrRecv)) = true := by decide

/-! ### Address bus driver (L2.2) and checksum (L2.3) -/

theorem test_drive_4123_mask : (driveLines 0x4123#16 .mask Lines.allLow).pa = 0x23#8 ∧
    (driveLines 0x4123#16 .mask Lines.allLow).ha = true ∧ (driveLines 0x4123#16 .mask Lines.allLow).vsel = true := by
  decide
theorem test_drive_4123_upper :
    (driveUpper 0x4123#16 Lines.allLow.ul)[(Config.addrPerm 0).val] = true ∧
    (driveUpper 0x4123#16 Lines.allLow.ul)[(Config.addrPerm 1).val] = false := by
  simp [driveUpper_addrPerm]
theorem test_crc_check_value :
    crc32 [0x31#8, 0x32#8, 0x33#8, 0x34#8, 0x35#8, 0x36#8, 0x37#8, 0x38#8, 0x39#8] 9 = 0xCBF43926#32 := by
  decide +kernel
theorem test_crc_0123 : trailer (crc32 [0x00#8, 0x01#8, 0x02#8, 0x03#8] 4) = [0x13#8, 0x86#8, 0xB9#8, 0x8B#8] := by
  decide +kernel
/-- The byte-step trace of R191. -/
theorem test_crc_byte_trace : (List.range 8).map (fun n => crcBits (n + 1) 0xFFFFFFFF#32) =
    [0x92477CDF#32, 0xA49B3D4F#32, 0xBFF51D87#32, 0xB2420DE3#32, 0xB49985D1#32, 0xB7F441C8#32, 0x5BFA20E4#32,
      0x2DFD1072#32] := by decide +kernel

/-! ### Witnesses: states that meet the hypotheses of the statements -/

/-- The longest packet the frame buffer takes, with a `WRITE` frame. -/
def fullPacket : Packet := ⟨0x42#8, 0x05#8 :: List.replicate Config.frameCapExtra 0#8⟩
/-- A packet one byte longer. -/
def longPacket : Packet := ⟨0x42#8, 0x05#8 :: List.replicate (Config.frameCapExtra + 1) 0#8⟩

theorem witness_DecodeAndEncodeAgree : Instr.wf .read = true ∧ decode [0x42#8, 0x03#8, 0xAA#8] = .instr .read := by
  decide
theorem witness_HostLinesSendTheirBytes : (HostLine.raw [0x42#8, 0x07#8]).packet = some ⟨0x42#8, [0x07#8]⟩ := by decide
theorem witness_StepRunsTheCommand_recognised : ∃ (s : State) (p : Packet),
    s.engineNext = true ∧ s.phase = .idle ∧ s.cmd = none ∧ s.rxq = p :: [] ∧
    s.fbLen + p.bytes.length ≤ Config.frameCap ∧ decode (s.fb ++ p.bytes) = .instr .write ∧ Instr.wf .write = true :=
  ⟨{ State.reset with rxq := [fullPacket] }, fullPacket, rfl, rfl, rfl, rfl,
    by simp [fullPacket, Packet.bytes, State.fbLen, State.reset, State.boot, Config.frameCap], rfl, rfl⟩
theorem witness_StepRunsTheCommand_inFlight : ∃ s : State,
    s.engineNext = true ∧ s.phase ≠ .idle ∧ s.phase ≠ .faulted ∧ s.cmd = some .readm :=
  ⟨{ inPhase .rdSend .readm with turns := [.engine] }, by decide⟩
theorem witness_RecognitionFillsSlot : State.reset.phase = .idle := by decide
/-- Log entry 4: a placed word is the next to run. -/
theorem test_placed_word_runs_next :
    (match step (State.reset.withFetchWord 16 0x4204) with
      | .next t => decide (t.cmd = some .readm) && decide (t.phase = .dispatch)
      | .fault _ => false
      | .refused _ => false) = true := by decide
theorem witness_HoldsUntilTheHostSends :
    (State.reset.engineNext = true ∧ State.reset.phase = .idle ∧ State.reset.rxq = [] ∧ State.reset.turns = []) ∧
    ∃ s : State, s.turns = [] ∧ s.phase = .wrRecv ∧ s.cmd = some .write ∧ s.rxq = [] :=
  ⟨by decide, { inPhase .wrRecv .write with i := 3#10 }, by decide⟩
theorem witness_OverflowingPacketFaults : ∃ (s : State) (p : Packet),
    s.engineNext = true ∧ s.phase = .idle ∧ s.rxq = p :: [] ∧ Config.frameCap < s.fbLen + p.bytes.length :=
  ⟨{ State.reset with rxq := [longPacket] }, longPacket, rfl, rfl, rfl,
    by simp [longPacket, Packet.bytes, State.fbLen, State.reset, State.boot, Config.frameCap]⟩
theorem witness_IllegalCodeFaults : ∃ (s : State) (p : Packet) (code : Byte),
    s.engineNext = true ∧ s.phase = .idle ∧ s.cmd = none ∧ s.rxq = p :: [] ∧
    s.fbLen + p.bytes.length ≤ Config.frameCap ∧ s.fb ++ p.bytes = 0x42#8 :: code :: [] ∧
    (code.toNat = 0 ∨ 6 ≤ code.toNat) :=
  ⟨{ State.reset with rxq := [⟨0x42#8, [0x06#8]⟩] }, ⟨0x42#8, [0x06#8]⟩, 0x06#8, rfl, rfl, rfl, rfl,
    by simp [Packet.bytes, State.fbLen, State.reset, State.boot, Config.frameCap], rfl, by decide⟩
theorem witness_UnrecognisedBytesStay_short : ∃ (s : State) (p : Packet),
    s.engineNext = true ∧ s.phase = .idle ∧ s.cmd = none ∧ s.rxq = p :: [] ∧
    s.fbLen + p.bytes.length ≤ Config.frameCap ∧ (s.fb ++ p.bytes).length < 2 :=
  ⟨{ State.reset with rxq := [⟨0x42#8, []⟩] }, ⟨0x42#8, []⟩, rfl, rfl, rfl, rfl,
    by simp [Packet.bytes, State.fbLen, State.reset, State.boot, Config.frameCap], by decide⟩
theorem witness_UnrecognisedBytesStay_notPrefixed : ∃ (s : State) (p : Packet) (b0 : Byte) (rest : List Byte),
    s.engineNext = true ∧ s.phase = .idle ∧ s.cmd = none ∧ s.rxq = p :: [] ∧
    s.fbLen + p.bytes.length ≤ Config.frameCap ∧ s.fb ++ p.bytes = b0 :: rest ∧ b0 ≠ 0x42#8 :=
  ⟨{ State.reset with rxq := [⟨0x43#8, [0x01#8]⟩] }, ⟨0x43#8, [0x01#8]⟩, 0x43#8, [0x01#8], rfl, rfl, rfl, rfl,
    by simp [Packet.bytes, State.fbLen, State.reset, State.boot, Config.frameCap], rfl, by decide⟩
theorem witness_HostTurnsTouchOnlyTheQueues :
    (∃ s : State, s.turns = .hostSend (framePacket .ping) :: []) ∧
    (∃ s : State, s.turns = .hostTake :: [] ∧ s.txq = 0x42#8 :: []) ∧
    (∃ s : State, s.turns = .hostTake :: [] ∧ s.txq = []) :=
  ⟨⟨{ State.reset with turns := [.hostSend (framePacket .ping)] }, rfl⟩,
    ⟨{ State.reset with turns := [.hostTake], txq := [0x42#8] }, rfl, rfl⟩,
    ⟨{ State.reset with turns := [.hostTake] }, rfl, rfl⟩⟩

theorem witness_DispatchRoutesEachCommand : (inPhase .dispatch .write).phase = .dispatch := rfl
theorem witness_PingSendsPong : (inPhase .ping .ping).phase = .ping := rfl
theorem witness_StartResetsCursor : (inPhase .session .start).phase = .session := rfl
theorem witness_ReadAlwaysFaults : ∀ c : Addr, c = 0x7E01#16 ∨ c = 0x7E00#16 →
    ∃ s : State, s.phase = .rdCheck ∧ s.mode = .eeprom ∧ s.cursor = c :=
  fun c _ => ⟨{ inPhase .rdCheck .read with mode := .eeprom, cursor := c }, rfl, rfl, rfl⟩
theorem witness_MaskedReadChecksRange : ∀ c : Addr, c = 0x7E00#16 ∨ c = 0x7E01#16 →
    ∃ s : State, s.phase = .rdCheck ∧ s.mode = .mask ∧ s.cursor = c :=
  fun c _ => ⟨{ inPhase .rdCheck .readm with cursor := c }, rfl, rfl, rfl⟩
/-- The two cursors above lie on the two sides of the bound. -/
theorem witness_range_boundary : (0x7E00#16 : Addr).toNat + 512 ≤ 32768 ∧ (0x7E01#16 : Addr).toNat + 512 > 32768 := by
  decide
theorem witness_ReadSetupConfiguresBus : (inPhase .rdSetup .readm).phase = .rdSetup := rfl
theorem witness_ReadCycleStoresTheSample : ∃ s : State, s.i.toNat = 511 ∧ s.i.toNat < 512 ∧ s.phase = .rdLoop :=
  ⟨{ inPhase .rdLoop .readm with i := 511#10 }, by decide⟩
theorem witness_ReadSendsBlockAndTrailer :
    (inPhase .rdPost .readm).phase = .rdPost ∧ (inPhase .rdSend .readm).phase = .rdSend := ⟨rfl, rfl⟩
theorem witness_WriteSetupConfiguresBus : (inPhase .wrSetup .write).phase = .wrSetup := rfl
theorem witness_WriteChecksRange : ∀ c : Addr, c = 0x7E00#16 ∨ c = 0x7E01#16 →
    ∃ s : State, s.phase = .wrCheck ∧ s.start = c :=
  fun c _ => ⟨{ inPhase .wrCheck .write with start := c }, rfl, rfl⟩
theorem witness_WriteTakesOneByte :
    (∃ s : State, s.phase = .wrRecv ∧ s.rxq = []) ∧
    (∃ s : State, s.phase = .wrRecv ∧ s.i.toNat = 511 ∧ s.rxq = ⟨0x11#8, []⟩ :: []) ∧
    (∃ s : State, s.phase = .wrRecv ∧ s.i.toNat = 0 ∧ s.rxq = ⟨0x11#8, [0x22#8]⟩ :: []) :=
  ⟨⟨inPhase .wrRecv .write, by decide⟩, ⟨{ inPhase .wrRecv .write with i := 511#10, rxq := [⟨0x11#8, []⟩] }, by decide⟩,
    ⟨{ inPhase .wrRecv .write with rxq := [⟨0x11#8, [0x22#8]⟩] }, by decide⟩⟩
theorem witness_WriteCycleStrobesOneByte :
    (∃ s : State, s.i.toNat = 511 ∧ s.i.toNat < 512 ∧ s.phase = .wrLoop ∧ s.mode = .eeprom) ∧
    (∃ s : State, s.phase = .wrLoop ∧ s.mode = .mask) :=
  ⟨⟨{ inPhase .wrLoop .write with i := 511#10, mode := .eeprom }, by decide⟩, ⟨inPhase .wrLoop .write, by decide⟩⟩
theorem witness_WriteAcknowledges : (inPhase .wrAck .write).phase = .wrAck := rfl
theorem witness_CompletionClearsSlotAndFrame : (inPhase .complete .write).phase = .complete ∧
    ∃ t, exec .write (inPhase .wrAck .write) = .next t ∧ t.phase = .complete := ⟨rfl, _, rfl, rfl⟩
theorem witness_IndexBeyondBufferFaults :
    (∃ s : State, 512 ≤ s.i.toNat ∧ s.phase = .rdLoop) ∧
    (∃ s : State, 512 ≤ s.i.toNat ∧ s.phase = .wrRecv ∧ s.rxq ≠ []) ∧
    (∃ s : State, 512 ≤ s.i.toNat ∧ s.phase = .wrLoop ∧ s.mode = .eeprom) :=
  ⟨⟨{ inPhase .rdLoop .readm with i := 512#10 }, by decide⟩,
    ⟨{ inPhase .wrRecv .write with i := 512#10, rxq := [⟨0x11#8, []⟩] }, by decide⟩,
    ⟨{ inPhase .wrLoop .write with i := 512#10, mode := .eeprom }, by decide⟩⟩
theorem witness_SettleAndWriteCycleWaits :
    (∃ s t : State, s.phase = .rdLoop ∧ exec .readm s = .next t) ∧
    (∃ s t : State, s.phase = .wrLoop ∧ exec .write s = .next t ∧ t.phase ≠ .faulted) :=
  ⟨⟨inPhase .rdLoop .readm, _, rfl, rfl⟩,
    ⟨{ inPhase .wrLoop .write with mode := .eeprom, i := 511#10 }, _, rfl, rfl, by decide⟩⟩

/-- A read at its last cycle in the last block. -/
def lastReadCycle : State :=
  { inPhase .rdLoop .readm with i := 511#10, start := 0x7E00#16, cursor := 0x7E00#16 }
/-- A write at its acknowledgment in the last block. -/
def lastWriteAck : State :=
  { inPhase .wrAck .write with start := 0x7E00#16, cursor := 0x7E00#16, mode := .eeprom, ddir := .output }
/-- A block that has faulted on the mode check. -/
def faultedRead : State :=
  { inPhase .faulted .read with mode := .eeprom, faultReason := some .mode, ind := .fault }

theorem fbLen_inPhase (p : Phase) (i : Instr) : (inPhase p i).fbLen ≤ Config.frameCap := by
  simp [inPhase, State.fbLen, encode, Config.frameCap]

theorem inv_lastReadCycle : lastReadCycle.Inv where
  slot := ⟨by decide, fun _ _ => ⟨.readm, rfl, rfl⟩⟩
  held := by rintro i ⟨⟩; rfl
  pending := by decide
  frame := fbLen_inPhase .rdLoop .readm
  reason := by decide
  indicator := by decide
  enables := by decide
  busIn := fun _ => rfl
  busOut := by decide
  index := by decide
  checkMode := by decide
  readRange := fun _ => ⟨rfl, rfl, by decide⟩
  writeRange := by decide
  writeMode := by decide

theorem inv_lastWriteAck : lastWriteAck.Inv where
  slot := ⟨by decide, fun _ _ => ⟨.write, rfl, rfl⟩⟩
  held := by rintro i ⟨⟩; rfl
  pending := by decide
  frame := fbLen_inPhase .wrAck .write
  reason := by decide
  indicator := by decide
  enables := by decide
  busIn := by decide
  busOut := fun _ => ⟨rfl, rfl⟩
  index := by decide
  checkMode := by decide
  readRange := by decide
  writeRange := fun _ => by decide
  writeMode := fun _ => rfl

theorem inv_faultedRead : faultedRead.Inv where
  slot := ⟨by decide, fun _ h => absurd rfl h⟩
  held := by rintro i ⟨⟩; rfl
  pending := by decide
  frame := fbLen_inPhase .faulted .read
  reason := by decide
  indicator := by decide
  enables := by decide
  busIn := by decide
  busOut := by decide
  index := by decide
  checkMode := by decide
  readRange := by decide
  writeRange := by decide
  writeMode := by decide

theorem witness_FaultedHasNoStep : faultedRead.phase = .faulted ∧ faultedRead.engineNext = true := by decide
theorem witness_OnlyPowerCycleLeavesFaulted :
    (∃ s t : State, s.phase = .faulted ∧ s.turns = [.powerCycle []] ∧ step s = .next t) ∧
    (∃ s t : State, s.phase = .faulted ∧ s.turns = [.hostSend (framePacket .ping)] ∧ step s = .next t) ∧
    (∃ s : State, s.phase = .wrLoop ∧ s.turns = .powerCycle [framePacket .ping] :: []) :=
  ⟨⟨{ faultedRead with turns := [.powerCycle []] }, _, rfl, rfl, rfl⟩,
    ⟨{ faultedRead with turns := [.hostSend (framePacket .ping)] }, _, rfl, rfl, rfl⟩,
    ⟨{ inPhase .wrLoop .write with turns := [.powerCycle [framePacket .ping]] }, rfl, rfl⟩⟩
theorem witness_ParametersInRange : ∃ s : State, s.turns = .powerCycle [framePacket .ping] :: [] :=
  ⟨{ State.reset with turns := [.powerCycle [framePacket .ping]] }, rfl⟩
theorem witness_EveryStepKeepsInvariant : ∃ s t : State, s.Inv ∧ step s = .next t :=
  ⟨lastReadCycle, _, inv_lastReadCycle, rfl⟩
theorem witness_OnlyFaultedStops : (∃ s : State, s.Inv ∧ s.phase ≠ .faulted) ∧ (∃ s : State, s.Inv ∧ s.phase = .faulted) :=
  ⟨⟨lastReadCycle, inv_lastReadCycle, by decide⟩, ⟨faultedRead, inv_faultedRead, rfl⟩⟩
theorem witness_CursorStaysAligned :
    (∃ s t : State, s.Inv ∧ s.cursorAligned ∧ s.powerCycleNext = false ∧ step s = .next t) ∧
    (∃ s t : State, s.phase = .session ∧ exec .start s = .next t) :=
  ⟨⟨lastWriteAck, _, inv_lastWriteAck, ⟨by decide, by decide⟩, rfl, rfl⟩, ⟨inPhase .session .start, _, rfl, rfl⟩⟩
theorem witness_BusIsSafeAlongEveryStep : ∃ s t : State, s.Inv ∧ s.engineNext = true ∧ step s = .next t :=
  ⟨lastReadCycle, _, inv_lastReadCycle, rfl, rfl⟩
theorem witness_CursorWriters :
    ∃ s t : State, s.powerCycleNext = false ∧ step s = .next t ∧ t.cursor ≠ s.cursor :=
  ⟨lastWriteAck, _, rfl, rfl, by decide⟩
theorem witness_QueueUse : ∃ s t : State, s.engineNext = true ∧ step s = .next t ∧ t.txq ≠ s.txq :=
  ⟨lastWriteAck, _, rfl, rfl, by decide⟩
theorem witness_OneCommandInFlight :
    ∃ s t : State, s.engineNext = true ∧ step s = .next t ∧ t.phase = .idle ∧ s.phase ≠ .idle ∧ t.cmd ≠ s.cmd :=
  ⟨inPhase .complete .ping, _, rfl, rfl, rfl, by decide, by decide⟩
theorem witness_OnePulsePerCommand :
    (∃ s t : State, s.engineNext = true ∧ step s = .next t ∧ t.phase = .complete) ∧
    (∃ s t : State, s.engineNext = true ∧ step s = .next t ∧ t.phase = .faulted) :=
  ⟨⟨lastWriteAck, _, rfl, rfl, rfl⟩,
    ⟨{ State.reset with rxq := [⟨0x42#8, [0x07#8]⟩] },
      raise .badCommand { State.reset with fb := [0x42#8, 0x07#8], evt := [.rx [0x42#8, 0x07#8]] }, rfl, rfl, rfl⟩⟩
theorem witness_RepliesHaveTheirLength :
    ∃ s t : State, s.phase.servedBy .write = true ∧ exec .write s = .next t ∧ t.phase = .complete :=
  ⟨lastWriteAck, _, rfl, rfl, rfl⟩
theorem witness_TransferBufferFrame :
    ∃ s t : State, exec .readm s = .next t ∧ s.phase = .rdLoop ∧ (510 : Nat) ≠ s.i.toNat :=
  ⟨lastReadCycle, _, rfl, rfl, by decide⟩
theorem witness_PingAndStartFrame : ∃ s t : State, s.phase.servedBy .start = true ∧ exec .start s = .next t :=
  ⟨inPhase .session .start, _, rfl, rfl⟩
theorem witness_ReadsFrame : ∃ s t : State, s.phase.servedBy .readm = true ∧ exec .readm s = .next t :=
  ⟨lastReadCycle, _, rfl, rfl⟩
theorem witness_WriteFrame : ∃ s t : State, s.phase.servedBy .write = true ∧ exec .write s = .next t :=
  ⟨lastWriteAck, _, rfl, rfl⟩
theorem witness_DriverFollowsTheTable :
    (14, [Line.ha, .vsel]) ∈ bitAssignment .mask ∧ (∀ row ∈ bitAssignment .mask, Line.ex ∉ row.2) := by
  simp [bitAssignment, topBitLines]
theorem witness_DriverIsPureAndInjective : (0x7FFF#16 : Addr).toNat < Config.bound ∧
    driveLines 0x7FFF#16 .mask Lines.allLow = driveLines 0x7FFF#16 .mask Lines.allLow := ⟨by decide, rfl⟩
theorem witness_TrailerFollowsTheData : ∃ s t : State, s.phase = .rdSend ∧ exec .readm s = .next t :=
  ⟨inPhase .rdSend .readm, rdSend (inPhase .rdSend .readm), rfl, by unfold exec execReadm commandStep; rfl⟩
theorem witness_OneChangedByteChangesChecksum : (0x00#8 : Byte) ≠ 0x80#8 := by decide
theorem witness_PingRun : ∃ s : State,
    s.turns = [] ∧ s.phase = .idle ∧ s.cmd = none ∧ s.fb = [] ∧ s.rxq = framePacket .ping :: [] :=
  ⟨{ State.reset with rxq := [framePacket .ping] }, by decide⟩
theorem witness_BytesAfterAFrameAreDiscarded_long : ∃ (s : State) (k : Instr) (rest : List Byte) (ps : List Packet),
    s.turns = [] ∧ s.phase = .idle ∧ s.cmd = none ∧ s.fb = [] ∧ s.rxq = ⟨0x42#8, k.code :: rest⟩ :: ps ∧
    Config.frameCap < rest.length + 2 :=
  ⟨{ State.reset with rxq := [⟨0x42#8, 0x01#8 :: List.replicate (Config.frameCapExtra + 1) 0#8⟩] }, .ping,
    List.replicate (Config.frameCapExtra + 1) 0#8, [], rfl, rfl, rfl, rfl, rfl, by simp [Config.frameCap]⟩
theorem witness_BytesAfterAFrameAreDiscarded_fits : ∀ k : Instr, k ≠ .read →
    ∃ (s : State) (rest : List Byte) (ps : List Packet),
      s.turns = [] ∧ s.phase = .idle ∧ s.cmd = none ∧ s.fb = [] ∧ s.rxq = ⟨0x42#8, k.code :: rest⟩ :: ps ∧
      rest.length + 2 ≤ Config.frameCap ∧ s.cursor.toNat + 512 ≤ 32768 ∧ ps = [] :=
  fun k _ =>
    ⟨{ State.reset with
        cursor := 0x7E00#16, rxq := [⟨0x42#8, k.code :: List.replicate Config.frameCapExtra 0#8⟩] },
      List.replicate Config.frameCapExtra 0#8, [], rfl, rfl, rfl, rfl, rfl, by simp [Config.frameCap], (by decide : (0x7E00#16).toNat + 512 ≤ 32768), rfl⟩
theorem witness_BytesAfterAFrameAreDiscarded_write : ∃ (s : State) (rest data tail : List Byte) (ps : List Packet),
    s.turns = [] ∧ s.phase = .idle ∧ s.cmd = none ∧ s.fb = [] ∧
    s.rxq = ⟨0x42#8, Instr.code .write :: rest⟩ :: ps ∧ rest.length + 2 ≤ Config.frameCap ∧
    s.cursor.toNat + 512 ≤ 32768 ∧ ps.flatMap Packet.bytes = data ++ tail ∧ data.length = 512 :=
  ⟨{ State.reset with
      cursor := 0x7E00#16,
      rxq := [⟨0x42#8, 0x05#8 :: List.replicate Config.frameCapExtra 0#8⟩, ⟨0xA5#8, List.replicate 511 0xA5#8⟩] },
    List.replicate Config.frameCapExtra 0#8, 0xA5#8 :: List.replicate 511 0xA5#8, [],
    [⟨0xA5#8, List.replicate 511 0xA5#8⟩], rfl, rfl, rfl, rfl, rfl, by simp [Config.frameCap], by decide, rfl,
    by rw [List.length_cons, List.length_replicate]⟩
theorem witness_MaskedReadRun : ∃ s : State,
    s.turns = [] ∧ s.phase = .dispatch ∧ s.cmd = some .readm ∧ s.cursor.toNat + 512 ≤ 32768 :=
  ⟨{ inPhase .dispatch .readm with cursor := 0x7E00#16 }, by decide⟩
theorem witness_ReadIgnoresEarlierBuffer : ∃ (s : State) (xb : Vector Byte Config.xbCap),
    s.turns = [] ∧ s.phase = .dispatch ∧ s.cmd = some .readm ∧ s.cursor.toNat + 512 ≤ 32768 ∧ xb[0] ≠ s.xb[0] ∧
    0xA5#8 ≠ s.dout ∧ 1#32 ≠ s.crc :=
  ⟨{ inPhase .dispatch .readm with cursor := 0x7E00#16 }, Vector.replicate 512 0xFF#8, by decide⟩
theorem witness_WriteRun : ∃ (s : State) (data rest : List Byte),
    s.turns = [] ∧ s.phase = .dispatch ∧ s.cmd = some .write ∧ s.cursor.toNat + 512 ≤ 32768 ∧
    s.rxq.flatMap Packet.bytes = data ++ rest ∧ data.length = 512 ∧ rest = [0x42#8, 0x01#8] :=
  ⟨{ inPhase .dispatch .write with
      cursor := 0x7E00#16, rxq := [⟨0xA5#8, List.replicate 511 0xA5#8⟩, framePacket .ping] },
    0xA5#8 :: List.replicate 511 0xA5#8, [0x42#8, 0x01#8], rfl, rfl, rfl, by decide, rfl,
    by rw [List.length_cons, List.length_replicate], rfl⟩
theorem witness_SessionHasSixtyFourBlocks_session : ∃ (s : State) (ops : List BlockOp) (ps : List Packet),
    s.turns = [] ∧ s.phase = .idle ∧ s.cmd = none ∧ s.fb = [] ∧
    s.rxq = framePacket .start :: (ops.flatMap BlockOp.packets ++ ps) ∧ ops.length = 64 :=
  ⟨{ State.reset with
      rxq := framePacket .start ::
        ((.write (Vector.replicate 512 0xA5#8) :: List.replicate 63 BlockOp.read).flatMap BlockOp.packets ++ []) },
    .write (Vector.replicate 512 0xA5#8) :: List.replicate 63 BlockOp.read, [], rfl, rfl, rfl, rfl, rfl,
    by rw [List.length_cons, List.length_replicate]⟩
theorem witness_SessionHasSixtyFourBlocks_next : ∀ k : Instr, k = .readm ∨ k = .write → ∃ s : State,
    s.turns = [] ∧ s.phase = .idle ∧ s.cmd = none ∧ s.fb = [] ∧ s.cursor = BitVec.ofNat 16 (512 * 64) ∧
    s.rxq = framePacket k :: [] :=
  fun k _ => ⟨{ State.reset with cursor := 0x8000#16, rxq := [framePacket k] }, rfl, rfl, rfl, rfl, rfl, rfl⟩
theorem witness_SessionHasSixtyFourBlocks_checks : ∀ n : Nat, n = 63 ∨ n = 64 →
    (∃ s : State, n ≤ 64 ∧ s.cursor = BitVec.ofNat 16 (512 * n) ∧ s.start = BitVec.ofNat 16 (512 * (n - 1)) ∧
      s.phase = .rdCheck ∧ s.mode = .mask) ∧
    (∃ s : State, n ≤ 64 ∧ s.cursor = BitVec.ofNat 16 (512 * n) ∧ s.start = s.cursor ∧ s.phase = .wrCheck) :=
  fun n h =>
    ⟨⟨{ inPhase .rdCheck .readm with cursor := BitVec.ofNat 16 (512 * n), start := BitVec.ofNat 16 (512 * (n - 1)) },
        by omega, rfl, rfl, rfl, rfl⟩,
      ⟨{ inPhase .wrCheck .write with cursor := BitVec.ofNat 16 (512 * n), start := BitVec.ofNat 16 (512 * n) },
        by omega, rfl, rfl, rfl⟩⟩

end Sys2Proof.Tests
end

section
/-! SUPPORT. The ranges of the open parameters (spec/00_scope.md R7), and the step that is a power cycle. -/

namespace Sys2Proof.Config

/-- The identity is replaced by a transposition, so it is no value of `ADDR_PERM` (R131, D12). -/
theorem addrPerm_ne_one : addrPerm ≠ 1 := by
  unfold addrPerm
  split
  · decide
  · assumption

theorem exists_addrPerm_ne_self : ∃ k, addrPerm k ≠ k :=
  DFunLike.ne_iff.mp addrPerm_ne_one

theorem pageSize_le : pageSize ≤ 512 := by
  have hexp : pageSizeFree % 10 ≤ 9 := by omega
  calc pageSize ≤ 2 ^ 9 := Nat.pow_le_pow_right (by decide) hexp
    _ = 512 := by decide

end Sys2Proof.Config

namespace Sys2Proof.Machine

/-- A power cycle's turn boots the machine anew, with the next draw number (R214, R230). -/
theorem step_of_powerCycle (s : State) (waiting : List Packet) (ts : List Turn)
    (h : s.turns = .powerCycle waiting :: ts) :
    step s = .next (State.boot (s.draws + 1) waiting s.evt ts) := by
  simp only [step, takeTurn, h, powerCycle]

end Sys2Proof.Machine
end

section
/-! The statements of spec/00_scope.md. -/

namespace Sys2Proof.Machine

/-- Settles O32: each parameter is built from its free value so that it stays in its range, and a power cycle boots with
the next draw number. -/
theorem parametersInRange : Obligations.ParametersInRange := by
  unfold Obligations.ParametersInRange
  refine ⟨?frameCap, ⟨Config.addrPerm.bijective, Config.exists_addrPerm_ne_self⟩, ⟨_, rfl⟩, ?pageSizePos,
    Config.pageSize_le, ?delay, ?powerCycle⟩
  case frameCap => exact Nat.le_add_left 2 Config.frameCapExtra
  case pageSizePos => exact Nat.one_le_two_pow
  case delay => exact fun k => Nat.succ_pos (Config.delayFree k)
  case powerCycle => exact fun s waiting ts h => ⟨_, step_of_powerCycle s waiting ts h, rfl, rfl⟩

end Sys2Proof.Machine
end

section
/-! SUPPORT. The meaning of a command by the phase it is called in, one equation per phase. -/

namespace Sys2Proof.Machine

variable {k : Instr} {s : State}

theorem exec_idle (hp : s.phase = .idle) : exec k s = .next (acceptCommand k s) := by
  simp only [exec_eq_commandStep, commandStep, hp]

theorem exec_dispatch (hp : s.phase = .dispatch) : exec k s = .next (routeOf k s) := by
  simp only [exec_eq_commandStep, commandStep, hp]

theorem exec_ping (hp : s.phase = .ping) : exec k s = .next (pingStep s) := by
  simp only [exec_eq_commandStep, commandStep, hp]

theorem exec_session (hp : s.phase = .session) : exec k s = .next (sessionStep s) := by
  simp only [exec_eq_commandStep, commandStep, hp]

theorem exec_rdCheck (hp : s.phase = .rdCheck) : exec k s = .next (rdCheck s) := by
  simp only [exec_eq_commandStep, commandStep, hp]

theorem exec_rdSetup (hp : s.phase = .rdSetup) : exec k s = .next (rdSetup s) := by
  simp only [exec_eq_commandStep, commandStep, hp]

theorem exec_rdLoop (hp : s.phase = .rdLoop) : exec k s = .next (rdLoop s) := by
  simp only [exec_eq_commandStep, commandStep, hp]

theorem exec_rdPost (hp : s.phase = .rdPost) : exec k s = .next (rdPost s) := by
  simp only [exec_eq_commandStep, commandStep, hp]

theorem exec_rdSend (hp : s.phase = .rdSend) : exec k s = .next (rdSend s) := by
  simp only [exec_eq_commandStep, commandStep, hp]

theorem exec_wrSetup (hp : s.phase = .wrSetup) : exec k s = .next (wrSetup s) := by
  simp only [exec_eq_commandStep, commandStep, hp]

theorem exec_wrCheck (hp : s.phase = .wrCheck) : exec k s = .next (wrCheck s) := by
  simp only [exec_eq_commandStep, commandStep, hp]

theorem exec_wrRecv (hp : s.phase = .wrRecv) : exec k s = .next (wrRecv s) := by
  simp only [exec_eq_commandStep, commandStep, hp]

theorem exec_wrLoop (hp : s.phase = .wrLoop) : exec k s = wrLoop s := by
  simp only [exec_eq_commandStep, commandStep, hp]

theorem exec_wrAck (hp : s.phase = .wrAck) : exec k s = .next (wrAck s) := by
  simp only [exec_eq_commandStep, commandStep, hp]

theorem exec_complete (hp : s.phase = .complete) : exec k s = .next (completeStep s) := by
  simp only [exec_eq_commandStep, commandStep, hp]

end Sys2Proof.Machine
end

section
/-! SUPPORT. The loops' store below the block length, and the three loop phases as equations: what `StepEffect` leaves open
there, the index, the byte stored and the phase, is decided. -/

namespace Sys2Proof.Machine

/-- The 10-bit index reaches the block length exactly after 511. -/
theorem succ_eq_512_iff (i : BitVec 10) : i + 1#10 = 512#10 ↔ i.toNat = 511 := by
  have h := i.isLt
  rw [← BitVec.toNat_inj, BitVec.toNat_add]
  simp only [BitVec.toNat_ofNat]
  omega

/-- Below the last index the 10-bit successor does not wrap. -/
theorem toNat_succ_of_lt {i : BitVec 10} (h : i.toNat < 512) : (i + 1#10).toNat = i.toNat + 1 := by
  rw [BitVec.toNat_add, BitVec.toNat_ofNat]
  omega

/-- The index a loop begins with is within the buffer. -/
theorem zero_lt_512 : (0#10).toNat < 512 := by decide

/-- A loop that goes on has its next index within the buffer. -/
theorem succ_lt_512 {i : BitVec 10} (h : i.toNat < 512) (hl : i.toNat ≠ 511) : (i + 1#10).toNat < 512 := by
  rw [toNat_succ_of_lt h]
  omega

/-- A store within the buffer: the last index, and no other, ends the loop (R153, R173). -/
theorem storeByte_within (b : Byte) (atEnd : State → State) (s : State) (h : s.i.toNat < 512) :
    storeByte b atEnd s =
      if s.i.toNat = 511 then atEnd { s with xb := s.xb.set s.i.toNat b h, i := s.i + 1#10 }
      else { s with xb := s.xb.set s.i.toNat b h, i := s.i + 1#10 } := by
  have hcap : s.i.toNat < Config.xbCap := h
  simp only [storeByte, dif_pos hcap, succ_eq_512_iff]

/-- The state after a read cycle that samples `b` and goes to phase `p` (R153). -/
def afterReadCycle (b : Byte) (p : Phase) (s : State) (h : s.i.toNat < 512) : State :=
  { s with
    lines := driveLines (cycleAddr s) .mask s.lines, nOE := Level.high, xb := s.xb.set s.i.toNat b h, i := s.i + 1#10,
    phase := p,
    evt := s.evt ++ [.lines (driveLines (cycleAddr s) .mask s.lines), .oe Level.low, .delay .rdSettle, .sample b,
      .oe Level.high] }

/-- One read cycle within the buffer (R153). -/
theorem exec_rdLoop_within (k : Instr) (s : State) (hp : s.phase = .rdLoop) (h : s.i.toNat < 512) :
    ∃ b, exec k s = .next (afterReadCycle b (if s.i.toNat = 511 then .rdPost else .rdLoop) s h) := by
  refine ⟨busSample (readAccess s), ?_⟩
  rw [exec_rdLoop hp, rdLoop]
  rw [storeByte_within _ _ _ (by simpa [readAccess] using h)]
  by_cases hl : s.i.toNat = 511 <;>
    simp [afterReadCycle, readAccess, setOE, drive, delay, record, setPhase, hp, hl]

/-- The state after a received byte `b` that leaves the queue `rxq`, the index `i` and the phase `p` (R173). -/
def afterReceive (b : Byte) (rxq : List Packet) (i : BitVec 10) (p : Phase) (s : State) (h : s.i.toNat < 512) : State :=
  { s with rxq := rxq, xb := s.xb.set s.i.toNat b h, i := i, phase := p, evt := s.evt ++ [.rx [b]] }

/-- One host byte received within the buffer (R173). -/
theorem exec_wrRecv_within (k : Instr) (s : State) (p : Packet) (ps : List Packet) (hp : s.phase = .wrRecv)
    (hr : s.rxq = p :: ps) (h : s.i.toNat < 512) :
    exec k s = .next (afterReceive p.first (dropHeadByte p ps) (if s.i.toNat = 511 then 0#10 else s.i + 1#10)
      (if s.i.toNat = 511 then .wrLoop else .wrRecv) s h) := by
  rw [exec_wrRecv hp]
  simp only [wrRecv, hr]
  rw [storeByte_within _ _ _ (by simpa using h)]
  by_cases hl : s.i.toNat = 511 <;> simp [afterReceive, rxTakeByte, record, hp, hl]

/-- A write that waits for its data holds (R173, log entry 1). -/
theorem exec_wrRecv_empty (k : Instr) (s : State) (hp : s.phase = .wrRecv) (hr : s.rxq = []) :
    exec k s = .next s := by
  rw [exec_wrRecv hp]
  simp only [wrRecv, hr]

/-- The state after a write cycle that goes to phase `p` (R174). -/
def afterWriteCycle (p : Phase) (s : State) (h : s.i.toNat < 512) : State :=
  { s with
    lines := driveLines (cycleAddr s) .eeprom s.lines, dout := s.xb[s.i.toNat], nWE := Level.high, i := s.i + 1#10,
    phase := p,
    evt := s.evt ++ [.lines (driveLines (cycleAddr s) .eeprom s.lines), .dout s.xb[s.i.toNat], .we Level.low,
      .we Level.high, .delay .wrCycle] }

/-- One write cycle within the buffer (R174). -/
theorem exec_wrLoop_within (k : Instr) (s : State) (hp : s.phase = .wrLoop) (hm : s.mode = .eeprom)
    (h : s.i.toNat < 512) :
    exec k s = .next (afterWriteCycle (if s.i.toNat = 511 then .wrAck else .wrLoop) s h) := by
  rw [exec_wrLoop hp]
  have hcap : s.i.toNat < Config.xbCap := h
  simp only [wrLoop, hm, drive_i, dif_pos hcap, writeStrobe, nextWriteIndex, succ_eq_512_iff, delay_i, setWE_i,
    setDout_i]
  by_cases hl : s.i.toNat = 511 <;>
    simp [afterWriteCycle, setDout, drive, setWE, delay, record, setPhase, hp, hm, hl]

end Sys2Proof.Machine
end

section
/-! SUPPORT. The invariant put together and taken apart by phase: what a command in flight carries through all its phases,
and what each phase needs beside it. -/

namespace Sys2Proof.Machine

/-- What the command in the slot carries from its acceptance to its completion, in whatever phase. -/
structure State.Carries (s : State) (k : Instr) : Prop where
  cmd     : s.cmd = some k
  held    : decode s.fb = .instr k
  frame   : s.fbLen ≤ Config.frameCap
  reason  : s.faultReason = none
  ind     : s.ind = .solid
  enables : s.nOE = Level.high ∧ s.nWE = Level.high

/-- A read past its check: its mode, its latched start and its range (R151). -/
structure State.ReadChecked (s : State) : Prop where
  mode  : s.mode = .mask
  start : s.start = s.cursor
  range : s.start.toNat + 512 ≤ 32768

/-- A write past its set-up: its mode, its latched start and its direction (R171). -/
structure State.WriteSetUp (s : State) : Prop where
  mode  : s.mode = .eeprom
  start : s.start = s.cursor
  ddir  : s.ddir = .output

/-- What each phase of a command needs beside what the command carries. -/
def State.phaseNeeds (s : State) : Prop :=
  match s.phase with
  | .rdCheck => s.mode = .mask ↔ s.cmd = some .readm
  | .rdSetup => s.ReadChecked
  | .rdLoop => s.ReadChecked ∧ s.ddir = .input ∧ s.i.toNat < 512
  | .rdPost => s.ReadChecked ∧ s.ddir = .input
  | .rdSend => s.ReadChecked ∧ s.ddir = .input
  | .wrSetup => s.mode = .eeprom
  | .wrCheck => s.WriteSetUp
  | .wrRecv => s.WriteSetUp ∧ s.start.toNat + 512 ≤ 32768 ∧ s.i.toNat < 512
  | .wrLoop => s.WriteSetUp ∧ s.start.toNat + 512 ≤ 32768 ∧ s.i.toNat < 512
  | .wrAck => s.WriteSetUp ∧ s.start.toNat + 512 ≤ 32768
  | _ => True

/-- In the phases after its check a read is checked. -/
theorem readChecked_of_inRead {s : State} (hn : s.phaseNeeds) (hp : s.phase.inRead = true) : s.ReadChecked := by
  unfold State.phaseNeeds at hn
  cases hph : s.phase <;> simp only [hph] at hn hp
  case rdSetup => exact hn
  case rdLoop => exact hn.1
  case rdPost => exact hn.1
  case rdSend => exact hn.1
  all_goals cases hp

/-- In the phases after its set-up a write is set up. -/
theorem writeSetUp_of_busOut {s : State} (hn : s.phaseNeeds) (hp : s.phase.busOut = true) : s.WriteSetUp := by
  unfold State.phaseNeeds at hn
  cases hph : s.phase <;> simp only [hph] at hn hp
  case wrCheck => exact hn
  case wrRecv => exact hn.1
  case wrLoop => exact hn.1
  case wrAck => exact hn.1
  all_goals cases hp

/-- A command in flight is not in `IDLE`. -/
theorem Phase.servedBy_ne_idle {p : Phase} {k : Instr} (h : p.servedBy k = true) : p ≠ .idle := by
  rintro rfl
  cases h

/-- A command in flight is not in `FAULTED`. -/
theorem Phase.servedBy_ne_faulted {p : Phase} {k : Instr} (h : p.servedBy k = true) : p ≠ .faulted := by
  rintro rfl
  cases h

/-- The invariant of an idle block. -/
theorem inv_of_idle {s : State} (hp : s.phase = .idle) (hc : s.cmd = none)
    (hd : decode s.fb = .incomplete ∨ decode s.fb = .notPrefixed) (hf : s.fbLen ≤ Config.frameCap)
    (hr : s.faultReason = none) (hi : s.ind = .solid) (he : s.nOE = Level.high ∧ s.nWE = Level.high) : s.Inv where
  slot := ⟨fun _ => hc, fun h => absurd hp h⟩
  held := by simp [hc]
  pending := fun _ => hd
  frame := hf
  reason := by simp [hp, hr]
  indicator := by simp [hp, hi]
  enables := he
  busIn := by simp [hp, Phase.busIn]
  busOut := by simp [hp, Phase.busOut]
  index := by simp [hp, Phase.inLoop]
  checkMode := by simp [hp]
  readRange := by simp [hp, Phase.inRead]
  writeRange := by simp [hp, Phase.inWrite]
  writeMode := by simp [hp, Phase.busOut]

/-- A fault keeps of the invariant what does not speak of the phase, and the rest asks nothing of `FAULTED` (R211). -/
theorem inv_faultedAfter {s : State} (r : FaultReason) (es : List Event)
    (hh : ∀ k, s.cmd = some k → decode s.fb = .instr k) (hf : s.fbLen ≤ Config.frameCap)
    (he : s.nOE = Level.high ∧ s.nWE = Level.high) : (faultedAfter r es s).Inv where
  slot := ⟨nofun, fun _ h => absurd rfl h⟩
  held := hh
  pending := nofun
  frame := hf
  reason := by simp [faultedAfter]
  indicator := by simp [faultedAfter]
  enables := he
  busIn := nofun
  busOut := nofun
  index := nofun
  checkMode := nofun
  readRange := nofun
  writeRange := nofun
  writeMode := nofun

/-- The invariant of a block with a command in flight. -/
theorem inv_of_inFlight {s : State} {k : Instr} (hs : s.phase.servedBy k = true) (hc : s.Carries k)
    (hn : s.phaseNeeds) : s.Inv where
  slot := ⟨fun h => absurd h (Phase.servedBy_ne_idle hs), fun _ _ => ⟨k, hc.cmd, hs⟩⟩
  held := by
    intro j hj
    obtain rfl : k = j := Option.some.inj (hc.cmd.symm.trans hj)
    exact hc.held
  pending := fun h => absurd h (Phase.servedBy_ne_idle hs)
  frame := hc.frame
  reason := by simp [hc.reason, Phase.servedBy_ne_faulted hs]
  indicator := by simp [hc.ind, Phase.servedBy_ne_faulted hs]
  enables := hc.enables
  busIn := by
    unfold State.phaseNeeds at hn
    cases hp : s.phase <;> simp only [hp] at hn <;> simp [Phase.busIn, hn]
  busOut := fun hp => ⟨(writeSetUp_of_busOut hn hp).ddir, (writeSetUp_of_busOut hn hp).start⟩
  index := by
    unfold State.phaseNeeds at hn
    cases hp : s.phase <;> simp only [hp] at hn <;> simp [Phase.inLoop, hn]
  checkMode := by
    intro hp
    simpa only [State.phaseNeeds, hp] using hn
  readRange := by
    intro hp
    obtain ⟨hm, hst, hr⟩ := readChecked_of_inRead hn hp
    exact ⟨hm, hst, hr⟩
  writeRange := by
    unfold State.phaseNeeds at hn
    cases hp : s.phase <;> simp only [hp] at hn <;> simp [Phase.inWrite] <;> omega
  writeMode := by
    rintro (hp | hp)
    · simpa only [State.phaseNeeds, hp] using hn
    · exact (writeSetUp_of_busOut hn hp).mode

/-- The fault reason of a block that has not faulted. -/
theorem State.Inv.reason_none {s : State} (h : s.Inv) (hf : s.phase ≠ .faulted) : s.faultReason = none := by
  by_contra hr
  exact hf (h.reason.mpr hr)

/-- The indicator of a block that has not faulted. -/
theorem State.Inv.ind_solid {s : State} (h : s.Inv) (hf : s.phase ≠ .faulted) : s.ind = .solid := by
  cases hi : s.ind
  case solid => rfl
  case fault => exact absurd (h.indicator.mp hi) hf

/-- What the invariant says of a command in flight. -/
theorem State.Inv.inFlight {s : State} {k : Instr} (h : s.Inv) (hi : s.phase ≠ .idle) (hf : s.phase ≠ .faulted)
    (hk : s.cmd = some k) : s.phase.servedBy k = true ∧ s.Carries k ∧ s.phaseNeeds := by
  obtain ⟨j, hj, hs⟩ := h.slot.2 hi hf
  obtain rfl : j = k := Option.some.inj (hj.symm.trans hk)
  refine ⟨hs, ⟨hk, h.held j hk, h.frame, h.reason_none hf, h.ind_solid hf, h.enables⟩, ?_⟩
  have hread (hp : s.phase.inRead = true) : s.ReadChecked := by
    obtain ⟨hm, hst, hr⟩ := h.readRange hp
    exact ⟨hm, hst, hr⟩
  have hwrite (hp : s.phase.busOut = true) : s.WriteSetUp := by
    obtain ⟨hd, hst⟩ := h.busOut hp
    exact ⟨h.writeMode (.inr hp), hst, hd⟩
  have hin := h.busIn
  have hrange := h.writeRange
  have hindex := h.index
  unfold State.phaseNeeds
  cases hp : s.phase <;> simp only [hp] at hread hwrite hin hrange hindex ⊢
  case rdCheck => exact h.checkMode hp
  case rdSetup => exact hread rfl
  case rdLoop => exact ⟨hread rfl, hin rfl, hindex rfl⟩
  case rdPost => exact ⟨hread rfl, hin rfl⟩
  case rdSend => exact ⟨hread rfl, hin rfl⟩
  case wrSetup => exact h.writeMode (.inl hp)
  case wrCheck => exact hwrite rfl
  case wrRecv => exact ⟨hwrite rfl, hrange rfl, hindex rfl⟩
  case wrLoop => exact ⟨hwrite rfl, hrange rfl, hindex rfl⟩
  case wrAck => exact ⟨hwrite rfl, hrange rfl⟩

/-- The invariant does not speak of the queues, the trace, the schedule and the draws. -/
theorem State.Inv.outside {s : State} (h : s.Inv) (rxq : List Packet) (txq : List Byte) (evt : List Event)
    (turns : List Turn) : { s with rxq := rxq, txq := txq, evt := evt, turns := turns }.Inv :=
  ⟨h.slot, h.held, h.pending, h.frame, h.reason, h.indicator, h.enables, h.busIn, h.busOut, h.index, h.checkMode,
    h.readRange, h.writeRange, h.writeMode⟩

/-- A power-on meets the invariant, whatever waits and whatever was recorded (R40, R231). -/
theorem inv_boot (draws : Nat) (waiting : List Packet) (evt : List Event) (turns : List Turn) :
    (State.boot draws waiting evt turns).Inv :=
  inv_of_idle rfl rfl (.inl rfl) (Nat.zero_le _) rfl rfl ⟨rfl, rfl⟩

end Sys2Proof.Machine
end

section
/-! SUPPORT. The steps that keep the invariant, by whose turn it is. -/

namespace Sys2Proof.Machine

/-- Acceptance puts the decoded command in flight (R101). -/
theorem inv_accepted {s : State} (h : s.Inv) (hp : s.phase = .idle) {p : Packet} (ps : List Packet)
    (hfit : s.fbLen + p.bytes.length ≤ Config.frameCap) {k : Instr} (hd : decode (s.fb ++ p.bytes) = .instr k) :
    (acceptCommand k (afterPoll p ps s)).Inv := by
  have hf : s.phase ≠ .faulted := by simp [hp]
  have hc : (acceptCommand k (afterPoll p ps s)).Carries k :=
    ⟨rfl, hd, by simpa [State.fbLen, afterPoll] using hfit, h.reason_none hf, h.ind_solid hf, h.enables⟩
  exact inv_of_inFlight rfl hc trivial

/-- A turn in which no instruction runs keeps the invariant: the engine holds, faults on the packet, or keeps its
bytes (R100, R101). -/
theorem fetch_stay_keeps_inv {s t : State} (h : s.Inv) (hs : fetch s = .stay t) : t.Inv := by
  obtain ⟨hp, ⟨-, rfl⟩ | ⟨p, ps, -, ⟨-, rfl⟩ | ⟨hfit, hc, rfl⟩ | ⟨hfit, hd, rfl⟩⟩⟩ := fetch_stay s t hs
  · exact h
  · exact inv_faultedAfter _ _ h.held h.frame h.enables
  · exact inv_faultedAfter _ _ (by simp [afterPoll, hc]) (by simpa [State.fbLen, afterPoll] using hfit) h.enables
  · have hc : s.cmd = none := h.slot.1 hp
    have hf : s.phase ≠ .faulted := by simp [hp]
    exact inv_of_idle hp hc (hd hc) (by simpa [State.fbLen, afterPoll] using hfit) (h.reason_none hf) (h.ind_solid hf)
      h.enables

/-- Routing establishes what the command's first own phase needs (R102). -/
theorem inv_routed {s : State} {k : Instr} (hc : s.Carries k) : (routeOf k s).Inv := by
  have hk := hc.cmd
  have hc' : (routeOf k s).Carries k := by cases k <;> exact { hc with }
  refine inv_of_inFlight ?_ hc' ?_ <;> cases k <;> simp [routeOf, Phase.servedBy, State.phaseNeeds, hk]

/-- An engine step of the command in flight keeps the invariant. -/
theorem exec_keeps_inv {s t : State} {k : Instr} (hs : s.phase.servedBy k = true) (hc : s.Carries k)
    (hn : s.phaseNeeds) (h : exec k s = .next t) : t.Inv := by
  have heff := exec_effect k s t h
  have hheld := (inv_of_inFlight hs hc hn).held
  unfold State.phaseNeeds at hn
  unfold StepEffect at heff
  cases hp : s.phase <;> simp only [hp] at hn heff hs
  case idle => cases hs
  case dispatch =>
    subst heff
    exact inv_routed hc
  case ping =>
    subst heff
    obtain rfl := of_decide_eq_true hs
    exact inv_of_inFlight (k := .ping) rfl { hc with } trivial
  case session =>
    subst heff
    obtain rfl := of_decide_eq_true hs
    exact inv_of_inFlight (k := .start) rfl { hc with } trivial
  case rdCheck =>
    obtain ⟨hrange, hm, rfl⟩ | ⟨r, rfl⟩ := heff
    · obtain rfl : k = .readm := Option.some.inj (hc.cmd.symm.trans (hn.mp hm))
      exact inv_of_inFlight (k := .readm) rfl { hc with } ⟨hm, rfl, by simp only; omega⟩
    · exact inv_faultedAfter _ _ hheld hc.frame hc.enables
  case rdSetup =>
    subst heff
    exact inv_of_inFlight hs { hc with enables := ⟨rfl, hc.enables.2⟩ } ⟨{ hn with }, rfl, zero_lt_512⟩
  case rdLoop =>
    obtain ⟨hrd, hd, hlt⟩ := hn
    obtain ⟨b, hb⟩ := exec_rdLoop_within k s hp hlt
    obtain rfl := outcome_next_inj (hb.symm.trans h)
    split_ifs with hl
    · exact inv_of_inFlight hs { hc with enables := ⟨rfl, hc.enables.2⟩ } ⟨{ hrd with }, hd⟩
    · exact inv_of_inFlight hs { hc with enables := ⟨rfl, hc.enables.2⟩ } ⟨{ hrd with }, hd, succ_lt_512 hlt hl⟩
  case rdPost =>
    subst heff
    exact inv_of_inFlight hs { hc with } ⟨{ hn.1 with }, hn.2⟩
  case rdSend =>
    subst heff
    obtain rfl := of_decide_eq_true hs
    exact inv_of_inFlight (k := .readm) rfl { hc with } trivial
  case wrSetup =>
    subst heff
    exact inv_of_inFlight hs { hc with enables := ⟨rfl, rfl⟩ } ⟨hn, rfl, rfl⟩
  case wrCheck =>
    obtain ⟨hrange, rfl⟩ | rfl := heff
    · exact inv_of_inFlight hs { hc with } ⟨{ hn with }, by simp only; omega, zero_lt_512⟩
    · exact inv_faultedAfter _ _ hheld hc.frame hc.enables
  case wrRecv =>
    obtain ⟨hwr, hrange, hlt⟩ := hn
    cases hq : s.rxq with
    | nil =>
      obtain rfl := outcome_next_inj ((exec_wrRecv_empty k s hp hq).symm.trans h)
      exact inv_of_inFlight (by rw [hp]; exact hs) hc (by rw [State.phaseNeeds, hp]; exact ⟨hwr, hrange, hlt⟩)
    | cons p ps =>
      obtain rfl := outcome_next_inj ((exec_wrRecv_within k s p ps hp hq hlt).symm.trans h)
      split_ifs with hl
      · exact inv_of_inFlight hs { hc with } ⟨{ hwr with }, hrange, zero_lt_512⟩
      · exact inv_of_inFlight hs { hc with } ⟨{ hwr with }, hrange, succ_lt_512 hlt hl⟩
  case wrLoop =>
    obtain ⟨hwr, hrange, hlt⟩ := hn
    obtain rfl := outcome_next_inj ((exec_wrLoop_within k s hp hwr.mode hlt).symm.trans h)
    split_ifs with hl
    · exact inv_of_inFlight hs { hc with enables := ⟨hc.enables.1, rfl⟩ } ⟨{ hwr with }, hrange⟩
    · exact inv_of_inFlight hs { hc with enables := ⟨hc.enables.1, rfl⟩ } ⟨{ hwr with }, hrange, succ_lt_512 hlt hl⟩
  case wrAck =>
    subst heff
    obtain rfl := of_decide_eq_true hs
    exact inv_of_inFlight (k := .write) rfl { hc with } trivial
  case complete =>
    subst heff
    exact inv_of_idle rfl rfl (.inl rfl) (Nat.zero_le _) hc.reason hc.ind hc.enables

/-- A turn that runs an instruction keeps the invariant. -/
theorem fetch_run_keeps_inv {s u t : State} {k : Instr} (h : s.Inv) (hr : fetch s = .run k u)
    (hx : exec k u = .next t) : t.Inv := by
  obtain ⟨hp, -, p, ps, -, hfit, hd, rfl⟩ | ⟨hi, hf, hk, rfl⟩ := fetch_run s u k hr
  · obtain rfl := outcome_next_inj ((exec_idle (s := afterPoll p ps s) hp).symm.trans hx)
    exact inv_accepted h hp ps hfit hd
  · obtain ⟨hs, hc, hn⟩ := h.inFlight hi hf hk
    exact exec_keeps_inv hs hc hn hx

/-- Settles O34: the environment's turns touch nothing the invariant speaks of, or boot the block; the engine's turns keep
it phase by phase. -/
theorem everyStepKeepsInvariant : Obligations.EveryStepKeepsInvariant := by
  unfold Obligations.EveryStepKeepsInvariant
  intro s t h hstep
  by_cases he : s.engineNext = true
  · have h' : s.afterTurn.Inv := h.outside s.rxq s.txq s.evt s.turns.tail
    obtain hs | ⟨k, u, hr, hx⟩ := step_engine s t he hstep
    · exact fetch_stay_keeps_inv h' hs
    · exact fetch_run_keeps_inv h' hr hx
  · obtain ⟨p, rfl⟩ | rfl | ⟨-, waiting, rfl⟩ := step_environment s t (by simpa using he) hstep
    · exact h.outside _ s.txq s.evt _
    · exact h.outside s.rxq _ s.evt _
    · exact inv_boot _ _ _ _

end Sys2Proof.Machine
end

section
/-! The cursor and the transfer buffer: what one step can do to each (R18, R20), and the statements that rest on it. -/

namespace Sys2Proof.Machine

/-- The writers of the cursor: `SESSION` clears it, `RD_SEND` and `WR_ACK` advance it, each in a step that completes its
command (R18). -/
def CursorWritten (s t : State) : Prop :=
  t.phase = .complete ∧
  ((s.phase = .session ∧ t.cursor = 0x0000#16) ∨
   ((s.phase = .rdSend ∨ s.phase = .wrAck) ∧ t.cursor = advancedCursor s.cursor))

/-- A step of a command leaves the cursor or is one of its writers. -/
theorem exec_cursor {k : Instr} {s t : State} (h : exec k s = .next t) : t.cursor = s.cursor ∨ CursorWritten s t := by
  have heff := exec_effect k s t h
  unfold StepEffect at heff
  cases hp : s.phase <;> simp only [hp] at heff
  case session => subst heff; exact .inr ⟨rfl, .inl ⟨hp, rfl⟩⟩
  case rdSend => subst heff; exact .inr ⟨rfl, .inr ⟨.inl hp, rfl⟩⟩
  case wrAck => subst heff; exact .inr ⟨rfl, .inr ⟨.inr hp, rfl⟩⟩
  all_goals refine .inl ?_
  case dispatch => subst heff; cases k <;> rfl
  case rdCheck => obtain ⟨-, -, rfl⟩ | ⟨r, rfl⟩ := heff <;> rfl
  case rdLoop => obtain ⟨b, ⟨xb, p, -, -, rfl⟩ | rfl⟩ := heff <;> rfl
  case wrCheck => obtain ⟨-, rfl⟩ | rfl := heff <;> rfl
  case wrRecv => obtain ⟨-, rfl⟩ | ⟨p, ps, -, ⟨xb, i, ph, -, -, rfl⟩ | rfl⟩ := heff <;> rfl
  case wrLoop => obtain ⟨-, ⟨b, p, -, rfl⟩ | rfl⟩ := heff <;> rfl
  all_goals subst heff; rfl

/-- A turn in which no instruction runs leaves the cursor. -/
theorem fetch_stay_cursor {s t : State} (h : fetch s = .stay t) : t.cursor = s.cursor := by
  obtain ⟨-, ⟨-, rfl⟩ | ⟨p, ps, -, ⟨-, rfl⟩ | ⟨-, -, rfl⟩ | ⟨-, -, rfl⟩⟩⟩ := fetch_stay s t h <;> rfl

/-- A turn that runs an instruction leaves the cursor or is one of its writers. -/
theorem fetch_run_cursor {s u t : State} {k : Instr} (hr : fetch s = .run k u) (hx : exec k u = .next t) :
    t.cursor = s.cursor ∨ CursorWritten s t := by
  obtain ⟨hp, -, p, ps, -, -, -, rfl⟩ | ⟨-, -, -, rfl⟩ := fetch_run s u k hr
  · obtain rfl := outcome_next_inj ((exec_idle (s := afterPoll p ps s) hp).symm.trans hx)
    exact .inl rfl
  · exact exec_cursor hx

/-- Only a power cycle and the engine's writers change the cursor. -/
theorem step_cursor {s t : State} (hpc : s.powerCycleNext = false) (h : step s = .next t) :
    t.cursor = s.cursor ∨ (s.engineNext = true ∧ CursorWritten s t) := by
  by_cases he : s.engineNext = true
  · obtain hs | ⟨k, u, hr, hx⟩ := step_engine s t he h
    · have hc : t.cursor = s.afterTurn.cursor := fetch_stay_cursor hs
      exact .inl hc
    · have hc : t.cursor = s.afterTurn.cursor ∨ CursorWritten s.afterTurn t := fetch_run_cursor hr hx
      exact hc.imp_right fun hw => ⟨he, hw⟩
  · obtain ⟨p, rfl⟩ | rfl | ⟨hpc', -⟩ := step_environment s t (by simpa using he) h
    · exact .inl rfl
    · exact .inl rfl
    · rw [hpc] at hpc'
      cases hpc'

/-- A block whose last step comes lies in range, so its advance does not wrap (R151, R172). -/
theorem State.Inv.cursor_in_range {s : State} (h : s.Inv) (hp : s.phase = .rdSend ∨ s.phase = .wrAck) :
    s.cursor.toNat + 512 ≤ 32768 := by
  rcases hp with hp | hp
  · obtain ⟨-, hst, hr⟩ := h.readRange (by rw [hp]; rfl)
    rwa [hst] at hr
  · obtain ⟨-, hst⟩ := h.busOut (by rw [hp]; rfl)
    have hr := h.writeRange (by rw [hp]; rfl)
    rwa [hst] at hr

/-- An advance within the address space is a plain sum. -/
theorem toNat_advancedCursor {c : Addr} (h : c.toNat + 512 ≤ 32768) : (advancedCursor c).toNat = c.toNat + 512 := by
  rw [advancedCursor, BitVec.toNat_add, BitVec.toNat_ofNat]
  omega

/-- Settles O36: a writer clears the cursor or advances it by a block that its range check has passed. -/
theorem cursorStaysAligned : Obligations.CursorStaysAligned := by
  unfold Obligations.CursorStaysAligned
  refine ⟨?step, ?session⟩
  case step =>
    intro s t h ⟨hmod, hle⟩ hpc hstep
    unfold State.cursorAligned
    obtain hc | ⟨-, -, ⟨-, hc⟩ | ⟨hp, hc⟩⟩ := step_cursor hpc hstep
    · rw [hc]
      exact ⟨hmod, hle⟩
    · rw [hc]
      decide
    · have hr := h.cursor_in_range hp
      rw [hc, toNat_advancedCursor hr]
      omega
  case session =>
    intro s t hp hx
    obtain rfl := outcome_next_inj ((exec_session hp).symm.trans hx)
    exact ⟨rfl, Nat.zero_le _⟩

/-- Settles O38: the writers are steps of the engine that complete a command. -/
theorem cursorWriters : Obligations.CursorWriters := by
  unfold Obligations.CursorWriters
  intro s t hpc hstep hne
  obtain hc | ⟨he, hcomplete, ⟨hp, -⟩ | ⟨hp, -⟩⟩ := step_cursor hpc hstep
  · exact absurd hc hne
  · exact ⟨he, .inl hp, hcomplete⟩
  · exact ⟨he, .inr hp, hcomplete⟩

/-- A step of a command leaves the transfer buffer, or is a step of a storing loop and leaves all bytes but the one at the
index (R20). -/
theorem exec_xb {k : Instr} {s t : State} (h : exec k s = .next t) :
    t.xb = s.xb ∨ ((s.phase = .rdLoop ∨ s.phase = .wrRecv) ∧ sameBut s.i.toNat t.xb s.xb) := by
  have heff := exec_effect k s t h
  unfold StepEffect at heff
  cases hp : s.phase <;> simp only [hp] at heff
  case rdLoop =>
    obtain ⟨b, ⟨xb, p, hxb, -, rfl⟩ | rfl⟩ := heff
    · exact .inr ⟨.inl rfl, hxb⟩
    · exact .inl rfl
  case wrRecv =>
    obtain ⟨-, rfl⟩ | ⟨p, ps, -, ⟨xb, i, ph, hxb, -, rfl⟩ | rfl⟩ := heff
    · exact .inl rfl
    · exact .inr ⟨.inr rfl, hxb⟩
    · exact .inl rfl
  all_goals refine .inl ?_
  case dispatch => subst heff; cases k <;> rfl
  case rdCheck => obtain ⟨-, -, rfl⟩ | ⟨r, rfl⟩ := heff <;> rfl
  case wrCheck => obtain ⟨-, rfl⟩ | rfl := heff <;> rfl
  case wrLoop => obtain ⟨-, ⟨b, p, -, rfl⟩ | rfl⟩ := heff <;> rfl
  all_goals subst heff; rfl

/-- Settles O43: the two storing loops write at their index alone. -/
theorem transferBufferFrame : Obligations.TransferBufferFrame := by
  unfold Obligations.TransferBufferFrame
  intro k s t h j hj hne
  obtain hxb | ⟨hp, hxb⟩ := exec_xb h
  · rw [hxb]
  · exact hxb j hj (hne hp)

end Sys2Proof.Machine
end

section
/-! Reset (R40, R231), and the index check that no run meets (R20). -/

namespace Sys2Proof.Machine

/-- Settles O31: the boot state names each of these values. -/
theorem resetValues : Obligations.ResetValues := by
  unfold Obligations.ResetValues
  exact ⟨rfl, rfl, rfl, rfl, rfl, rfl, rfl, rfl, rfl⟩

/-- Settles O33: reset is the first power-on. -/
theorem resetMeetsInvariant : Obligations.ResetMeetsInvariant := inv_boot 0 [] [] []

/-- A read cycle beyond the buffer faults after its sample, output-enable inactive again (R20, R153). -/
theorem rdLoop_beyond {s : State} (h : 512 ≤ s.i.toNat) :
    rdLoop s =
      raise .xbufOverflow (setOE Level.high (record (.sample (busSample (readAccess s))) (readAccess s))) := by
  unfold rdLoop
  exact storeByte_of_ge _ _ _ (by simpa [readAccess] using h)

/-- A byte received beyond the buffer faults (R20, R173). -/
theorem wrRecv_beyond {s : State} {p : Packet} {ps : List Packet} (hr : s.rxq = p :: ps) (h : 512 ≤ s.i.toNat) :
    wrRecv s = raise .xbufOverflow (rxTakeByte p ps s) := by
  simp only [wrRecv, hr]
  exact storeByte_of_ge _ _ _ h

/-- A write cycle beyond the buffer faults after its drive, without a strobe (R20, log entry 15). -/
theorem wrLoop_beyond {s : State} (hm : s.mode = .eeprom) (h : 512 ≤ s.i.toNat) :
    wrLoop s = .next (raise .xbufOverflow (drive (cycleAddr s) .eeprom s)) := by
  have hcap : ¬ s.i.toNat < Config.xbCap := Nat.not_lt.mpr h
  simp only [wrLoop, hm]
  exact dif_neg hcap

/-- Settles O26: the fault replaces the store, and fault entry leaves the buffer, the index and the lines as they are. -/
theorem indexBeyondBufferFaults : Obligations.IndexBeyondBufferFaults := by
  unfold Obligations.IndexBeyondBufferFaults
  intro s hi
  refine ⟨fun hp => ?read, fun hp hr => ?receive, fun hp hm => ?write⟩
  case read =>
    refine ⟨_, exec_rdLoop hp, ?_⟩
    rw [rdLoop_beyond hi]
    simp [readAccess]
  case receive =>
    obtain ⟨p, ps, hq⟩ := List.exists_cons_of_ne_nil hr
    refine ⟨_, exec_wrRecv hp, ?_⟩
    rw [wrRecv_beyond hq hi]
    exact ⟨rfl, rfl, rfl, rfl⟩
  case write =>
    refine ⟨_, (exec_wrLoop hp).trans (wrLoop_beyond hm hi), ?_⟩
    exact ⟨rfl, rfl, rfl, rfl, rfl⟩

end Sys2Proof.Machine
end

section
/-! SUPPORT. Runs of the commands with only engine turns: the turn that takes a frame, the straight phases, and the three
loops of 512 steps. -/

namespace Sys2Proof.Machine

/-- `n` steps lead from `s` to `t`. -/
def Runs (n : Nat) (s t : State) : Prop := Host.Core.run core n s = .next t

theorem Runs.refl (s : State) : Runs 0 s s := rfl

theorem Runs.cons {n : Nat} {s t u : State} (h : step s = .next t) (hr : Runs n t u) : Runs (n + 1) s u :=
  (run_succ_of_next n s t h).trans hr

theorem Runs.trans {m n : Nat} {s t u : State} (h : Runs m s t) (hr : Runs n t u) : Runs (m + n) s u :=
  (run_add_of_next m n s t h).trans hr

/-- With an empty schedule every turn is the engine's, in the state itself. -/
theorem takeTurn_of_nil {s : State} (ht : s.turns = []) : takeTurn s = .engine s := by
  simp only [takeTurn, ht]

/-- A turn in which no instruction runs. -/
theorem step_of_stay {s u : State} (ht : s.turns = []) (hf : fetch s = .stay u) : step s = .next u := by
  simp only [step, takeTurn_of_nil ht, hf]

/-- A turn that runs an instruction. -/
theorem step_of_run {s u : State} {k : Instr} (ht : s.turns = []) (hf : fetch s = .run k u) : step s = exec k u := by
  simp only [step, takeTurn_of_nil ht, hf]

/-- The engine's turn on a packet that the frame buffer cannot take (R100). -/
theorem step_of_overflow {s : State} {p : Packet} {ps : List Packet} (ht : s.turns = []) (hp : s.phase = .idle)
    (hq : s.rxq = p :: ps) (hlong : Config.frameCap < s.fbLen + p.bytes.length) :
    step s = .next (raise .frameOverflow (rxTakePacket p ps s)) := by
  have hover : frameOverflows (rxTakePacket p ps s).fbLen p.bytes.length = true := decide_eq_true hlong
  refine step_of_stay ht ?_
  simp only [fetch, hp, poll, hq, hover, if_true]

/-- The engine's turn that takes a packet and accepts the command the frame buffer then holds (R100, R101). -/
theorem step_of_recognised {s : State} {p : Packet} {ps : List Packet} {k : Instr} (ht : s.turns = [])
    (hp : s.phase = .idle) (hc : s.cmd = none) (hq : s.rxq = p :: ps)
    (hfit : s.fbLen + p.bytes.length ≤ Config.frameCap) (hd : decode (s.fb ++ p.bytes) = .instr k) :
    step s = .next (acceptCommand k (afterPoll p ps s)) := by
  have hover : ¬ frameOverflows (rxTakePacket p ps s).fbLen p.bytes.length = true := by
    rw [frameOverflows, decide_eq_true_eq]
    exact Nat.not_lt.mpr hfit
  have hrec : recognise (afterPoll p ps s) = .run k (afterPoll p ps s) := by
    simp [recognise, afterPoll, hc, hd]
  have hf : fetch s = .run k (afterPoll p ps s) := by
    simp only [fetch, hp, poll, hq, if_neg hover]
    exact hrec
  exact (step_of_run ht hf).trans (exec_idle (s := afterPoll p ps s) hp)

/-- The engine's turn that runs the command in flight (R103). -/
theorem step_of_inFlight {s t : State} {k : Instr} (ht : s.turns = []) (hc : s.cmd = some k)
    (hs : s.phase.servedBy k = true) (hx : exec k s = .next t) : step s = .next t :=
  (step_of_run ht (fetch_inFlight s k hc (Phase.servedBy_ne_idle hs) (Phase.servedBy_ne_faulted hs))).trans hx

/-- Dispatch, with only engine turns. -/
theorem step_of_dispatch {s : State} {k : Instr} (ht : s.turns = []) (hc : s.cmd = some k) (hp : s.phase = .dispatch) :
    step s = .next (routeOf k s) :=
  step_of_inFlight ht hc (by rw [hp]; rfl) (exec_dispatch hp)

/-- `PING` from its dispatch to `IDLE` (R105). -/
theorem runs_ping {s : State} (ht : s.turns = []) (hc : s.cmd = some .ping) (hp : s.phase = .dispatch) :
    Runs 3 s (completeStep (pingStep (setPhase .ping s))) := by
  have h1 : step s = .next (setPhase .ping s) := step_of_dispatch ht hc hp
  have h2 : step (setPhase .ping s) = .next (pingStep (setPhase .ping s)) :=
    step_of_inFlight (k := .ping) ht hc rfl (exec_ping rfl)
  have h3 : step (pingStep (setPhase .ping s)) = .next (completeStep (pingStep (setPhase .ping s))) :=
    step_of_inFlight (k := .ping) ht hc rfl (exec_complete rfl)
  exact .cons h1 (.cons h2 (.cons h3 (.refl _)))

/-- `START` from its dispatch to `IDLE` (R106). -/
theorem runs_start {s : State} (ht : s.turns = []) (hc : s.cmd = some .start) (hp : s.phase = .dispatch) :
    Runs 3 s (completeStep (sessionStep (setPhase .session s))) := by
  have h1 : step s = .next (setPhase .session s) := step_of_dispatch ht hc hp
  have h2 : step (setPhase .session s) = .next (sessionStep (setPhase .session s)) :=
    step_of_inFlight (k := .start) ht hc rfl (exec_session rfl)
  have h3 : step (sessionStep (setPhase .session s)) = .next (completeStep (sessionStep (setPhase .session s))) :=
    step_of_inFlight (k := .start) ht hc rfl (exec_complete rfl)
  exact .cons h1 (.cons h2 (.cons h3 (.refl _)))

/-- A block within the bound passes the range check (R151, R172). -/
theorem rangeViolated_of_le {a : Addr} (h : a.toNat + 512 ≤ 32768) : rangeViolated a = false := by
  rw [← Bool.not_eq_true, rangeViolated_iff]
  omega

/-- A masked read that has passed its check and set up the bus (R151, R152). -/
def readyToRead (s : State) : State :=
  { s with
    mode := .mask, start := s.cursor, ddir := .input, nOE := Level.high, i := 0#10, phase := .rdLoop,
    evt := s.evt ++ [.ddir .input, .oe Level.high, .delay .rdPre] }

/-- A masked read in range gets to its loop. -/
theorem runs_readm_setup {s : State} (ht : s.turns = []) (hc : s.cmd = some .readm) (hp : s.phase = .dispatch)
    (hr : s.cursor.toNat + 512 ≤ 32768) : Runs 3 s (readyToRead s) := by
  have hcheck : rdCheck (routeOf .readm s) = { s with mode := .mask, start := s.cursor, phase := .rdSetup } := by
    simp [rdCheck, routeOf, routeBlock, rangeViolated_of_le hr, modeViolated, setPhase]
  have hsetup : rdSetup (rdCheck (routeOf .readm s)) = readyToRead s := by
    simp [hcheck, rdSetup, readyToRead, setDdir, setOE, delay, record]
  have h1 : step s = .next (routeOf .readm s) := step_of_dispatch ht hc hp
  have h2 : step (routeOf .readm s) = .next (rdCheck (routeOf .readm s)) :=
    step_of_inFlight (k := .readm) ht hc rfl (exec_rdCheck rfl)
  have h3 : step (rdCheck (routeOf .readm s)) = .next (readyToRead s) := by
    rw [← hsetup, hcheck]
    exact step_of_inFlight (k := .readm) ht hc rfl (exec_rdSetup rfl)
  exact .cons h1 (.cons h2 (.cons h3 (.refl _)))

/-- The read loop from any index to its end: it touches the lines, output-enable, the buffer, the index and the trace
(R153). -/
theorem runs_rdLoop (n : Nat) (s : State) (ht : s.turns = []) (hc : s.cmd = some .readm) (hp : s.phase = .rdLoop)
    (hi : s.i.toNat + n = 511) :
    ∃ lines nOE xb i evt,
      Runs (n + 1) s { s with lines := lines, nOE := nOE, xb := xb, i := i, phase := .rdPost, evt := evt } := by
  induction n generalizing s with
  | zero =>
    obtain ⟨b, hx⟩ := exec_rdLoop_within .readm s hp (by omega)
    have hl : s.i.toNat = 511 := hi
    rw [if_pos hl] at hx
    exact ⟨_, _, _, _, _, .cons (step_of_inFlight ht hc (by rw [hp]; rfl) hx) (.refl _)⟩
  | succ n ih =>
    have hlt : s.i.toNat < 512 := by omega
    have hl : s.i.toNat ≠ 511 := by omega
    obtain ⟨b, hx⟩ := exec_rdLoop_within .readm s hp hlt
    rw [if_neg hl] at hx
    have hi' : (s.i + 1#10).toNat + n = 511 := by rw [toNat_succ_of_lt hlt]; omega
    obtain ⟨lines, nOE, xb, i, evt, hrest⟩ := ih (afterReadCycle b .rdLoop s hlt) ht hc rfl hi'
    exact ⟨lines, nOE, xb, i, evt, .cons (step_of_inFlight ht hc (by rw [hp]; rfl) hx) hrest⟩

/-- The end of a masked read (R154, R155). -/
theorem runs_readm_end {s : State} (ht : s.turns = []) (hc : s.cmd = some .readm) (hp : s.phase = .rdPost) :
    Runs 3 s (completeStep (rdSend (rdPost s))) := by
  have h1 : step s = .next (rdPost s) := step_of_inFlight ht hc (by rw [hp]; rfl) (exec_rdPost hp)
  have h2 : step (rdPost s) = .next (rdSend (rdPost s)) :=
    step_of_inFlight (k := .readm) ht hc rfl (exec_rdSend rfl)
  have h3 : step (rdSend (rdPost s)) = .next (completeStep (rdSend (rdPost s))) := by
    rw [rdSend_eq]
    exact step_of_inFlight (k := .readm) ht hc rfl (exec_complete rfl)
  exact .cons h1 (.cons h2 (.cons h3 (.refl _)))

/-- A masked read in range from its dispatch to `IDLE`: the reply is the stored block and its trailer. -/
theorem runs_readm {s : State} (ht : s.turns = []) (hc : s.cmd = some .readm) (hp : s.phase = .dispatch)
    (hr : s.cursor.toNat + 512 ≤ 32768) :
    ∃ t, Runs 518 s t ∧ t.phase = .idle ∧ t.cmd = none ∧ t.fb = [] ∧ t.rxq = s.rxq ∧
      t.txq = s.txq ++ t.xb.toList ++ trailer (crc32 t.xb.toList 512) ∧ t.cursor = s.cursor + 512#16 := by
  obtain ⟨lines, nOE, xb, i, evt, hloop⟩ := runs_rdLoop 511 (readyToRead s) ht hc rfl rfl
  have hend := runs_readm_end (s := { readyToRead s with
    lines := lines, nOE := nOE, xb := xb, i := i, phase := .rdPost, evt := evt }) ht hc rfl
  refine ⟨_, (runs_readm_setup ht hc hp hr).trans (hloop.trans hend), ?_⟩
  simp [rdSend_eq, rdPost, readyToRead, advancedCursor]

/-- A write that has set up the bus and passed its check (R171, R172). -/
def readyToReceive (s : State) : State :=
  { s with
    mode := .eeprom, start := s.cursor, ddir := .output, nOE := Level.high, nWE := Level.high, i := 0#10,
    phase := .wrRecv, evt := s.evt ++ [.ddir .output, .oe Level.high, .we Level.high] }

/-- A write in range gets to where it takes its data. -/
theorem runs_write_setup {s : State} (ht : s.turns = []) (hc : s.cmd = some .write) (hp : s.phase = .dispatch)
    (hr : s.cursor.toNat + 512 ≤ 32768) : Runs 3 s (readyToReceive s) := by
  have hstart : rangeViolated s.cursor = false := rangeViolated_of_le hr
  have hcheck : wrCheck (wrSetup (routeOf .write s)) = readyToReceive s := by
    simp [wrCheck, hstart, wrSetup, routeOf, routeBlock, readyToReceive, setDdir, setOE, setWE, record, setPhase]
  have h1 : step s = .next (routeOf .write s) := step_of_dispatch ht hc hp
  have h2 : step (routeOf .write s) = .next (wrSetup (routeOf .write s)) :=
    step_of_inFlight (k := .write) ht hc rfl (exec_wrSetup rfl)
  have h3 : step (wrSetup (routeOf .write s)) = .next (readyToReceive s) := by
    rw [← hcheck]
    exact step_of_inFlight (k := .write) ht hc rfl (exec_wrCheck rfl)
  exact .cons h1 (.cons h2 (.cons h3 (.refl _)))

/-- A byte taken from the head packet is the first of the queue's bytes (R52). -/
theorem flatMap_bytes_cons (p : Packet) (ps : List Packet) :
    (p :: ps).flatMap Packet.bytes = p.first :: (dropHeadByte p ps).flatMap Packet.bytes := by
  obtain ⟨b, _ | ⟨c, cs⟩⟩ := p <;> simp [dropHeadByte, Packet.bytes]

/-- One host byte received within the buffer, with the queue seen as its bytes (R52, R173). -/
theorem exec_wrRecv_bytes (k : Instr) (s : State) (b : Byte) (bs : List Byte) (hp : s.phase = .wrRecv)
    (hq : s.rxq.flatMap Packet.bytes = b :: bs) (h : s.i.toNat < 512) :
    ∃ rxq, rxq.flatMap Packet.bytes = bs ∧ exec k s =
      .next (afterReceive b rxq (if s.i.toNat = 511 then 0#10 else s.i + 1#10)
        (if s.i.toNat = 511 then .wrLoop else .wrRecv) s h) := by
  cases hr : s.rxq with
  | nil => rw [hr] at hq; cases hq
  | cons p ps =>
    rw [hr, flatMap_bytes_cons] at hq
    obtain ⟨rfl, hbs⟩ := List.cons.inj hq
    exact ⟨dropHeadByte p ps, hbs, exec_wrRecv_within k s p ps hp hr h⟩

/-- A store extends the filled part of the buffer by its byte. -/
theorem take_succ_set (xb : Vector Byte Config.xbCap) {j : Nat} (b : Byte) (h : j < Config.xbCap) :
    (xb.set j b h).toList.take (j + 1) = xb.toList.take j ++ [b] := by
  have hlen : j < (xb.set j b h).toList.length := by simpa using h
  rw [List.take_succ_eq_append_getElem hlen]
  simp [Vector.toList_set, List.take_set_of_le]

/-- The receive loop from any index to its end, with its bytes waiting in any packets: they fill the rest of the buffer,
and what comes after them stays queued (R173, D17). -/
theorem runs_wrRecv (n : Nat) (s : State) (data tail : List Byte) (ht : s.turns = []) (hc : s.cmd = some .write)
    (hp : s.phase = .wrRecv) (hi : s.i.toNat + n = 511) (hlen : data.length = n + 1)
    (hq : s.rxq.flatMap Packet.bytes = data ++ tail) :
    ∃ (rxq : List Packet) (xb : Vector Byte Config.xbCap) (evt : List Event),
      Runs (n + 1) s { s with rxq := rxq, xb := xb, i := 0#10, phase := .wrLoop, evt := evt } ∧
      rxq.flatMap Packet.bytes = tail ∧ xb.toList = s.xb.toList.take s.i.toNat ++ data := by
  have hlt : s.i.toNat < 512 := by omega
  induction n generalizing s data with
  | zero =>
    obtain ⟨b, rfl⟩ := List.length_eq_one_iff.mp hlen
    obtain ⟨rxq, hrxq, hx⟩ := exec_wrRecv_bytes .write s b tail hp hq hlt
    have hl : s.i.toNat = 511 := hi
    rw [if_pos hl, if_pos hl] at hx
    refine ⟨_, _, _, .cons (step_of_inFlight ht hc (by rw [hp]; rfl) hx) (.refl _), hrxq, ?_⟩
    rw [← take_succ_set s.xb b hlt, List.take_of_length_le (by simp [hl])]
  | succ n ih =>
    obtain ⟨b, bs, rfl⟩ := List.exists_cons_of_length_eq_add_one hlen
    have hbs : bs.length = n + 1 := Nat.succ.inj hlen
    obtain ⟨rxq, hrxq, hx⟩ := exec_wrRecv_bytes .write s b (bs ++ tail) hp hq hlt
    have hl : s.i.toNat ≠ 511 := by omega
    rw [if_neg hl, if_neg hl] at hx
    have hnext := toNat_succ_of_lt hlt
    have hi' : (s.i + 1#10).toNat + n = 511 := by omega
    obtain ⟨rxq', xb, evt, hrest, htail, hxb⟩ :=
      ih (afterReceive b rxq (s.i + 1#10) .wrRecv s hlt) bs ht hc rfl hi' hbs hrxq (succ_lt_512 hlt hl)
    refine ⟨rxq', xb, evt, .cons (step_of_inFlight ht hc (by rw [hp]; rfl) hx) hrest, htail, ?_⟩
    rw [hxb]
    simp only [afterReceive, hnext]
    rw [take_succ_set s.xb b hlt, List.append_assoc, List.singleton_append]

/-- The write loop from any index to its end: it touches the lines, the data lines, write-enable, the index and the trace
(R174). -/
theorem runs_wrLoop (n : Nat) (s : State) (ht : s.turns = []) (hc : s.cmd = some .write) (hp : s.phase = .wrLoop)
    (hm : s.mode = .eeprom) (hi : s.i.toNat + n = 511) :
    ∃ lines dout nWE i evt,
      Runs (n + 1) s { s with lines := lines, dout := dout, nWE := nWE, i := i, phase := .wrAck, evt := evt } := by
  induction n generalizing s with
  | zero =>
    have hl : s.i.toNat = 511 := hi
    have hx := exec_wrLoop_within .write s hp hm (by omega)
    rw [if_pos hl] at hx
    exact ⟨_, _, _, _, _, .cons (step_of_inFlight ht hc (by rw [hp]; rfl) hx) (.refl _)⟩
  | succ n ih =>
    have hlt : s.i.toNat < 512 := by omega
    have hl : s.i.toNat ≠ 511 := by omega
    have hx := exec_wrLoop_within .write s hp hm hlt
    rw [if_neg hl] at hx
    have hi' : (s.i + 1#10).toNat + n = 511 := by rw [toNat_succ_of_lt hlt]; omega
    obtain ⟨lines, dout, nWE, i, evt, hrest⟩ := ih (afterWriteCycle .wrLoop s hlt) ht hc rfl hm hi'
    exact ⟨lines, dout, nWE, i, evt, .cons (step_of_inFlight ht hc (by rw [hp]; rfl) hx) hrest⟩

/-- `WR_ACK` as one record update (R175). -/
theorem wrAck_eq (s : State) :
    wrAck s = { s with
      txq := s.txq ++ [0x42#8], cursor := advancedCursor s.cursor, phase := .complete,
      evt := s.evt ++ [.tx 0x42#8, .ind .pulse] } := by
  simp [wrAck, txSend, advanceCursor, setCursor, indicate, record, setPhase]

/-- The end of a write (R175). -/
theorem runs_write_end {s : State} (ht : s.turns = []) (hc : s.cmd = some .write) (hp : s.phase = .wrAck) :
    Runs 2 s (completeStep (wrAck s)) := by
  have h1 : step s = .next (wrAck s) := step_of_inFlight ht hc (by rw [hp]; rfl) (exec_wrAck hp)
  have h2 : step (wrAck s) = .next (completeStep (wrAck s)) := by
    rw [wrAck_eq]
    exact step_of_inFlight (k := .write) ht hc rfl (exec_complete rfl)
  exact .cons h1 (.cons h2 (.refl _))

/-- A write in range with its bytes waiting, from its dispatch to `IDLE`. -/
theorem runs_write {s : State} {data tail : List Byte} (ht : s.turns = []) (hc : s.cmd = some .write)
    (hp : s.phase = .dispatch) (hr : s.cursor.toNat + 512 ≤ 32768)
    (hq : s.rxq.flatMap Packet.bytes = data ++ tail) (hlen : data.length = 512) :
    ∃ t, Runs 1029 s t ∧ t.phase = .idle ∧ t.cmd = none ∧ t.fb = [] ∧ t.xb.toList = data ∧
      t.rxq.flatMap Packet.bytes = tail ∧ t.txq = s.txq ++ [0x42#8] ∧ t.cursor = s.cursor + 512#16 := by
  obtain ⟨rxq, xb, evt, hrecv, htail, hxb⟩ := runs_wrRecv 511 (readyToReceive s) data tail ht hc rfl rfl hlen hq
  obtain ⟨lines, dout, nWE, i, evt', hloop⟩ := runs_wrLoop 511 { readyToReceive s with
    rxq := rxq, xb := xb, i := 0#10, phase := .wrLoop, evt := evt } ht hc rfl rfl rfl
  have hend := runs_write_end (s := { readyToReceive s with
    rxq := rxq, xb := xb, lines := lines, dout := dout, nWE := nWE, i := i, phase := .wrAck, evt := evt' }) ht hc rfl
  refine ⟨_, (runs_write_setup ht hc hp hr).trans (hrecv.trans (hloop.trans hend)), ?_⟩
  rw [wrAck_eq]
  exact ⟨rfl, rfl, rfl, hxb, htail, rfl, rfl⟩

end Sys2Proof.Machine
end

section
/-! Bytes after a frame (R31, R75, R76, R103). -/

namespace Sys2Proof.Machine

/-- The packet of a frame with whatever bytes after it. -/
theorem decode_frame_append (k : Instr) (rest : List Byte) : decode (0x42#8 :: k.code :: rest) = .instr k := by
  cases k <;> rfl

/-- Settles O55: the polled packet is the frame buffer of the accepted command, which reads no byte of it after its code and
empties it at completion. -/
theorem bytesAfterAFrameAreDiscarded : Obligations.BytesAfterAFrameAreDiscarded := by
  unfold Obligations.BytesAfterAFrameAreDiscarded
  intro s k rest ps ht hp hc hfb hq
  have hlen : s.fbLen + (Packet.mk 0x42#8 (k.code :: rest)).bytes.length = rest.length + 2 := by
    simp [State.fbLen, hfb, Packet.bytes]
  refine ⟨fun hlong => ?overflow, fun hfit hread hrange => ?fits⟩
  case overflow =>
    have hstep := step_of_overflow ht hp hq (by rw [hlen]; exact hlong)
    exact ⟨_, Runs.cons hstep (.refl _), rfl, rfl, rfl⟩
  case fits =>
    have hstep := step_of_recognised (k := k) ht hp hc hq (by rw [hlen]; exact hfit)
      (by rw [hfb]; exact decode_frame_append k rest)
    refine ⟨fun hw => ?reply, fun hw hps => ?hold, fun hw data tail hdata hlen512 => ?write⟩
    case reply =>
      cases k with
      | ping =>
        refine ⟨_, Runs.cons hstep (runs_ping ht rfl rfl), rfl, rfl, rfl, rfl, ?_⟩
        simp [pingStep, txSendAll_eq, afterPoll, replyLength]
      | start =>
        exact ⟨_, Runs.cons hstep (runs_start ht rfl rfl), rfl, rfl, rfl, rfl, rfl, nofun, fun _ => ⟨rfl, rfl⟩, nofun⟩
      | read => exact absurd rfl hread
      | readm =>
        obtain ⟨t, hrun, hidle, hcmd, hfb', hrxq, htxq, hcur⟩ := runs_readm (s := acceptCommand .readm
          (afterPoll ⟨0x42#8, Instr.readm.code :: rest⟩ ps s)) ht rfl rfl (hrange (.inl rfl))
        refine ⟨t, Runs.cons hstep hrun, hidle, hcmd, hfb', hrxq, ?_, nofun, nofun, fun _ => ⟨htxq, hcur⟩⟩
        simp [htxq, afterPoll, trailer, replyLength]
      | write => exact absurd rfl hw
    case hold =>
      subst hw hps
      exact ⟨_, Runs.cons hstep (runs_write_setup ht rfl rfl (hrange (.inr rfl))), rfl, rfl, rfl, rfl, rfl⟩
    case write =>
      subst hw
      obtain ⟨t, hrun, hrest⟩ := runs_write (s := acceptCommand .write
        (afterPoll ⟨0x42#8, Instr.write.code :: rest⟩ ps s)) ht rfl rfl (hrange (.inr rfl)) hdata hlen512
      exact ⟨t, Runs.cons hstep hrun, hrest⟩

end Sys2Proof.Machine
end

section
/-! SUPPORT. The turns of the host, and what an engine step can do to the two queues (spec/20_memory.md R52, R53, R58). -/

namespace Sys2Proof.Machine

/-- A host turn that appends a packet (R52). -/
theorem step_of_hostSend {s : State} {p : Packet} {ts : List Turn} (h : s.turns = .hostSend p :: ts) :
    step s = .next { s with turns := ts, rxq := s.rxq ++ [p] } := by
  simp only [step, takeTurn, h, hostSend]

/-- A host turn that removes a reply byte, if there is one (R53, log entry 24). -/
theorem step_of_hostTake {s : State} {ts : List Turn} (h : s.turns = .hostTake :: ts) :
    step s = .next { s with turns := ts, txq := s.txq.drop 1 } := by
  simp only [step, takeTurn, h, hostTake]

/-- What an engine step does to the queues: nothing, or it may take from the receive queue in a phase that polls or
receives (R100, R173), or it sends in a phase that replies (R105, R155, R175). -/
def QueuesUsed (s t : State) : Prop :=
  (t.rxq = s.rxq ∧ t.txq = s.txq) ∨
  ((s.phase = .idle ∨ s.phase = .wrRecv) ∧ t.txq = s.txq) ∨
  ((s.phase = .ping ∨ s.phase = .rdSend ∨ s.phase = .wrAck) ∧ t.rxq = s.rxq ∧ s.txq <+: t.txq)

/-- A step of a command receives in `WR_RECV` and replies in `PING`, `RD_SEND` and `WR_ACK`; in every other phase it leaves
both queues. -/
theorem exec_queues {k : Instr} {s t : State} (h : exec k s = .next t) : QueuesUsed s t := by
  have heff := exec_effect k s t h
  unfold StepEffect at heff
  cases hp : s.phase <;> simp only [hp] at heff
  case ping => subst heff; exact .inr (.inr ⟨.inl hp, rfl, ⟨_, rfl⟩⟩)
  case rdSend => subst heff; exact .inr (.inr ⟨.inr (.inl hp), rfl, ⟨_, rfl⟩⟩)
  case wrAck => subst heff; exact .inr (.inr ⟨.inr (.inr hp), rfl, ⟨_, rfl⟩⟩)
  case wrRecv =>
    refine .inr (.inl ⟨.inr hp, ?_⟩)
    obtain ⟨-, rfl⟩ | ⟨p, ps, -, ⟨xb, i, ph, -, -, rfl⟩ | rfl⟩ := heff <;> rfl
  all_goals refine .inl ?_
  case dispatch => subst heff; cases k <;> exact ⟨rfl, rfl⟩
  case rdCheck => obtain ⟨-, -, rfl⟩ | ⟨r, rfl⟩ := heff <;> exact ⟨rfl, rfl⟩
  case rdLoop => obtain ⟨b, ⟨xb, p, -, -, rfl⟩ | rfl⟩ := heff <;> exact ⟨rfl, rfl⟩
  case wrCheck => obtain ⟨-, rfl⟩ | rfl := heff <;> exact ⟨rfl, rfl⟩
  case wrLoop => obtain ⟨-, ⟨b, p, -, rfl⟩ | rfl⟩ := heff <;> exact ⟨rfl, rfl⟩
  all_goals subst heff; exact ⟨rfl, rfl⟩

/-- A turn in which no instruction runs is a poll, and sends nothing. -/
theorem fetch_stay_queues {s t : State} (h : fetch s = .stay t) : QueuesUsed s t := by
  obtain ⟨hp, hpoll⟩ := fetch_stay s t h
  refine .inr (.inl ⟨.inl hp, ?_⟩)
  obtain ⟨-, rfl⟩ | ⟨p, ps, -, ⟨-, rfl⟩ | ⟨-, -, rfl⟩ | ⟨-, -, rfl⟩⟩ := hpoll <;> rfl

/-- A turn that runs an instruction is the poll that accepts it, or a step of the command in flight. -/
theorem fetch_run_queues {s u t : State} {k : Instr} (hr : fetch s = .run k u) (hx : exec k u = .next t) :
    QueuesUsed s t := by
  obtain ⟨hp, -, p, ps, -, -, -, rfl⟩ | ⟨-, -, -, rfl⟩ := fetch_run s u k hr
  · obtain rfl := outcome_next_inj ((exec_idle (s := afterPoll p ps s) hp).symm.trans hx)
    exact .inr (.inl ⟨.inl hp, rfl⟩)
  · exact exec_queues hx

/-- What an engine step does to the queues. -/
theorem step_queues {s t : State} (he : s.engineNext = true) (h : step s = .next t) : QueuesUsed s t := by
  -- `afterTurn` changes the schedule alone, of which `QueuesUsed` does not speak.
  change QueuesUsed s.afterTurn t
  obtain hs | ⟨k, u, hr, hx⟩ := step_engine s t he h
  · exact fetch_stay_queues hs
  · exact fetch_run_queues hr hx

end Sys2Proof.Machine
end

section
/-! SUPPORT. Two masked reads that differ in what an earlier command left behind: the same bytes are sampled, and each
replaces the byte of the transfer buffer at the index (R62, R153, R195). -/

namespace Sys2Proof.Machine

/-- `s` with other leftovers of an earlier command: the transfer buffer, the checksum register and `DOUT`. -/
def leftover (xb : Vector Byte Config.xbCap) (crc : Crc) (dout : Byte) (s : State) : State :=
  { s with xb := xb, crc := crc, dout := dout }

/-- A run has one end. -/
theorem Runs.unique {n : Nat} {s t u : State} (ht : Runs n s t) (hu : Runs n s u) : t = u :=
  outcome_next_inj (ht.symm.trans hu)

/-- While the data lines are inputs the target sees nothing of the leftovers (R11, R24, D31). -/
theorem busSample_leftover (xb : Vector Byte Config.xbCap) (crc : Crc) (dout : Byte) {s : State}
    (hd : s.ddir = .input) : busSample (readAccess (leftover xb crc dout s)) = busSample (readAccess s) := by
  have hdriven : drivenData (readAccess (leftover xb crc dout s)) = drivenData (readAccess s) :=
    (drivenData_of_input (readAccess (leftover xb crc dout s)) hd).trans (drivenData_of_input (readAccess s) hd).symm
  simp only [busSample, physical, hdriven]
  rfl

/-- One read cycle within the buffer stores the sampled byte: `exec_rdLoop_within` with its byte named (R153). -/
theorem exec_rdLoop_sample (k : Instr) (s : State) (hp : s.phase = .rdLoop) (h : s.i.toNat < 512) :
    exec k s = .next
      (afterReadCycle (busSample (readAccess s)) (if s.i.toNat = 511 then .rdPost else .rdLoop) s h) := by
  rw [exec_rdLoop hp, rdLoop, storeByte_within _ _ _ (by simpa [readAccess] using h)]
  by_cases hl : s.i.toNat = 511 <;>
    simp [afterReadCycle, readAccess, setOE, drive, delay, record, setPhase, hp, hl]

/-- A store of one byte extends the part of two buffers that agrees. -/
theorem take_succ_set_congr {xb ys : Vector Byte Config.xbCap} {j : Nat} (b : Byte) (h : j < Config.xbCap)
    (heq : xb.toList.take j = ys.toList.take j) :
    (xb.set j b h).toList.take (j + 1) = (ys.set j b h).toList.take (j + 1) := by
  rw [take_succ_set xb b h, take_succ_set ys b h, heq]

/-- Buffers that agree in their whole length are one. -/
theorem eq_of_take_all {xb ys : Vector Byte Config.xbCap} {n : Nat} (hn : 512 ≤ n)
    (h : xb.toList.take n = ys.toList.take n) : xb = ys := by
  rw [List.take_of_length_le (by simpa using hn), List.take_of_length_le (by simpa using hn)] at h
  exact Vector.toList_inj.mp h

/-- One turn of the read loop in two blocks that differ in leftovers: the same byte is stored (R153). -/
theorem step_rdLoop_leftover {s : State} (xb : Vector Byte Config.xbCap) (crc : Crc) (dout : Byte) (ht : s.turns = [])
    (hc : s.cmd = some .readm) (hp : s.phase = .rdLoop) (hd : s.ddir = .input) (h : s.i.toNat < 512) :
    ∃ b p, (p = if s.i.toNat = 511 then .rdPost else .rdLoop) ∧ step s = .next (afterReadCycle b p s h) ∧
      step (leftover xb crc dout s) = .next (leftover (xb.set s.i.toNat b h) crc dout (afterReadCycle b p s h)) := by
  have hs : s.phase.servedBy .readm = true := by rw [hp]; rfl
  have hx := exec_rdLoop_sample .readm s hp h
  have hy := exec_rdLoop_sample .readm (leftover xb crc dout s) hp h
  rw [busSample_leftover xb crc dout hd] at hy
  exact ⟨_, _, rfl, step_of_inFlight ht hc hs hx, step_of_inFlight (s := leftover xb crc dout s) ht hc hs hy⟩

/-- The read loop from any index to its end in two blocks that differ in leftovers and agree in the buffer below that
index: the loop leaves them the same buffer. -/
theorem runs_rdLoop_leftover (n : Nat) (s : State) (xb : Vector Byte Config.xbCap) (crc : Crc) (dout : Byte)
    (ht : s.turns = []) (hc : s.cmd = some .readm) (hp : s.phase = .rdLoop) (hd : s.ddir = .input)
    (hi : s.i.toNat + n = 511) (hxb : xb.toList.take s.i.toNat = s.xb.toList.take s.i.toNat) :
    ∃ t, Runs (n + 1) s t ∧ Runs (n + 1) (leftover xb crc dout s) (leftover t.xb crc dout t) ∧
      t.turns = [] ∧ t.cmd = some .readm ∧ t.phase = .rdPost := by
  have hlt : s.i.toNat < 512 := by omega
  induction n generalizing s xb with
  | zero =>
    obtain ⟨b, p, hph, hstep, hstep'⟩ := step_rdLoop_leftover xb crc dout ht hc hp hd hlt
    have hl : s.i.toNat = 511 := hi
    have hset := eq_of_take_all (by omega) (take_succ_set_congr b hlt hxb)
    rw [if_pos hl] at hph
    rw [hset] at hstep'
    exact ⟨_, .cons hstep (.refl _), .cons hstep' (.refl _), ht, hc, hph⟩
  | succ n ih =>
    obtain ⟨b, p, hph, hstep, hstep'⟩ := step_rdLoop_leftover xb crc dout ht hc hp hd hlt
    have hl : s.i.toNat ≠ 511 := by omega
    have hnext := toNat_succ_of_lt hlt
    rw [if_neg hl] at hph
    obtain ⟨t, hrun, hrun', hend⟩ := ih (afterReadCycle b p s hlt) (xb.set s.i.toNat b hlt) ht hc hph hd
      (by simp only [afterReadCycle]; omega)
      (by simp only [afterReadCycle, hnext]; exact take_succ_set_congr b hlt hxb) (succ_lt_512 hlt hl)
    exact ⟨t, .cons hstep hrun, .cons hstep' hrun', hend⟩

/-- The end of a masked read overwrites `crc` and leaves `DOUT` (R155, R195). -/
theorem rdEnd_leftover (crc : Crc) (dout : Byte) (s : State) :
    completeStep (rdSend (rdPost (leftover s.xb crc dout s))) =
      { completeStep (rdSend (rdPost s)) with dout := dout } := by
  rw [rdSend_eq, rdSend_eq]
  rfl

/-- Two masked reads in range that differ in leftovers end alike, but for `DOUT`. -/
theorem runs_readm_leftover {s : State} (xb : Vector Byte Config.xbCap) (crc : Crc) (dout : Byte) (ht : s.turns = [])
    (hc : s.cmd = some .readm) (hp : s.phase = .dispatch) (hr : s.cursor.toNat + 512 ≤ 32768) :
    ∃ t, Runs 518 s t ∧ Runs 518 (leftover xb crc dout s) { t with dout := dout } := by
  have hsetup := runs_readm_setup ht hc hp hr
  have hsetup' := runs_readm_setup (s := leftover xb crc dout s) ht hc hp hr
  obtain ⟨u, hloop, hloop', htu, hcu, hpu⟩ :=
    runs_rdLoop_leftover 511 (readyToRead s) xb crc dout ht hc rfl rfl rfl rfl
  have hend := runs_readm_end htu hcu hpu
  have hend' := runs_readm_end (s := leftover u.xb crc dout u) htu hcu hpu
  rw [rdEnd_leftover] at hend'
  exact ⟨_, hsetup.trans (hloop.trans hend), hsetup'.trans (hloop'.trans hend')⟩

end Sys2Proof.Machine
end

section
/-! The statements of spec/20_memory.md. -/

namespace Sys2Proof.Machine

/-- Settles O11: a host turn is its queue operation on the state less the turn. -/
theorem hostTurnsTouchOnlyTheQueues : Obligations.HostTurnsTouchOnlyTheQueues := by
  unfold Obligations.HostTurnsTouchOnlyTheQueues
  refine ⟨fun s p ts h => step_of_hostSend h, fun s b bs ts h hq => ?byte, fun s ts h hq => ?empty⟩
  case byte =>
    rw [step_of_hostTake h, hq]
    rfl
  case empty =>
    rw [step_of_hostTake h, hq, List.drop_nil, ← hq]

/-- Settles O39: each clause reads off its phases from what an engine step does to the queues. -/
theorem queueUse : Obligations.QueueUse := by
  unfold Obligations.QueueUse
  intro s t he hstep
  obtain ⟨hrxq, htxq⟩ | ⟨hp, htxq⟩ | ⟨hp, hrxq, hsent⟩ := step_queues he hstep
  · exact ⟨fun h => absurd hrxq h, fun h => absurd htxq h, by rw [htxq]⟩
  · exact ⟨fun _ => hp, fun h => absurd htxq h, by rw [htxq]⟩
  · exact ⟨fun h => absurd hrxq h, fun _ => hp, hsent⟩

/-- Settles O57: the loop replaces the whole transfer buffer by samples that do not see the leftovers, and the checksum
register is loaded before it is read. -/
theorem readIgnoresEarlierBuffer : Obligations.ReadIgnoresEarlierBuffer := by
  unfold Obligations.ReadIgnoresEarlierBuffer
  intro s t xb crc dout ht hp hc hr hrun
  obtain ⟨u, hu, hu'⟩ := runs_readm_leftover xb crc dout ht hc hp hr
  obtain rfl := Runs.unique hu hrun
  exact hu'

end Sys2Proof.Machine
end

section
/-! SUPPORT. The decoder, each answer by what the frame buffer holds (spec/30_encoding.md R70 to R75). -/

namespace Sys2Proof

/-- The code of a command is in 1..5 (R72). -/
theorem Instr.code_range (k : Instr) : 1 ≤ k.code.toNat ∧ k.code.toNat ≤ 5 := by
  have hcode : Laws.Code.Statement k := by
    cases k with
    | ping => exact Laws.Code.ping
    | start => exact Laws.Code.start
    | read => exact Laws.Code.read
    | readm => exact Laws.Code.readm
    | write => exact Laws.Code.write
  obtain ⟨-, -, -, hlow, hhigh, -⟩ := hcode
  exact ⟨hlow, hhigh⟩

/-- A code selects the command whose code it is. -/
theorem eq_code_of_codeToInstr {code : Byte} {k : Instr} (h : codeToInstr code = some k) : code = k.code := by
  unfold codeToInstr at h
  split_ifs at h <;> (obtain rfl := Option.some.inj h; assumption)

/-- A value that selects no command is 0x00 or in 0x06..0xFF (R73). -/
theorem illegal_of_codeToInstr {code : Byte} (h : codeToInstr code = none) : code.toNat = 0 ∨ 6 ≤ code.toNat := by
  simp only [codeToInstr, ← BitVec.toNat_inj, BitVec.toNat_ofNat] at h
  split_ifs at h
  omega

/-- 0x00 and 0x06..0xFF select no command (R73). -/
theorem codeToInstr_of_illegal {code : Byte} (h : code.toNat = 0 ∨ 6 ≤ code.toNat) : codeToInstr code = none := by
  refine Option.eq_none_iff_forall_ne_some.mpr fun k hk => ?_
  have hrange := k.code_range
  rw [← eq_code_of_codeToInstr hk] at hrange
  omega

/-- The contents of the frame buffer that each answer of the decoder stands for (R70, R72 to R75). -/
def Decoded.standsFor (bytes : List Byte) : Decoded → Prop
  | .incomplete => bytes.length < 2
  | .notPrefixed => ∃ b0 b1 rest, bytes = b0 :: b1 :: rest ∧ b0 ≠ 0x42#8
  | .badCommand code => ∃ rest, bytes = 0x42#8 :: code :: rest ∧ (code.toNat = 0 ∨ 6 ≤ code.toNat)
  | .instr k => ∃ rest, bytes = encode k ++ rest

/-- The decoder's answer stands for the bytes. -/
theorem decode_standsFor (bytes : List Byte) : (decode bytes).standsFor bytes := by
  match bytes with
  | [] => exact Nat.zero_lt_two
  | [_] => exact Nat.one_lt_two
  | b0 :: b1 :: rest =>
    rw [decode]
    by_cases hb : b0 = framePrefix
    · rw [if_pos hb, hb]
      cases hcode : codeToInstr b1 with
      | none => exact ⟨rest, rfl, illegal_of_codeToInstr hcode⟩
      | some k => exact ⟨rest, by rw [eq_code_of_codeToInstr hcode]; rfl⟩
    · rw [if_neg hb]
      exact ⟨b0, b1, rest, rfl, hb⟩

/-- No other answer stands for the bytes. -/
theorem decode_eq_of_standsFor {bytes : List Byte} {d : Decoded} (h : d.standsFor bytes) : decode bytes = d := by
  cases d with
  | incomplete =>
    match bytes with
    | [] => rfl
    | [_] => rfl
    | _ :: _ :: _ => simp [Decoded.standsFor] at h
  | notPrefixed =>
    obtain ⟨b0, b1, rest, rfl, hb⟩ := h
    exact if_neg hb
  | badCommand code =>
    obtain ⟨rest, rfl, hcode⟩ := h
    rw [decode, if_pos (show 0x42#8 = framePrefix from rfl), codeToInstr_of_illegal hcode]
  | instr k =>
    obtain ⟨rest, rfl⟩ := h
    exact Machine.decode_frame_append k rest

/-- The decoder's answer is the one that stands for the bytes. -/
theorem decode_eq_iff (bytes : List Byte) (d : Decoded) : decode bytes = d ↔ d.standsFor bytes :=
  ⟨fun h => h ▸ decode_standsFor bytes, decode_eq_of_standsFor⟩

end Sys2Proof
end

section
/-! SUPPORT. The words of the opcode table as 16-bit patterns (R70, R72), and the packets of the host lines (R79). -/

namespace Sys2Proof

/-- A 16-bit pattern is its high byte and its low byte (R70). -/
theorem highByte_append_lowByte (w : BitVec 16) : w.extractLsb' 8 8 ++ w.extractLsb' 0 8 = w :=
  (BitVec.extractLsb'_append_extractLsb'_eq_extractLsb' (start₁ := 0) rfl).trans BitVec.extractLsb'_eq_self

/-- The packet of a 16-bit pattern: its high byte, then its low byte (R70). -/
theorem tablePacket_bytes (w : BitVec 16) :
    (tablePacket 16 w.toNat).bytes = [w.extractLsb' 8 8, w.extractLsb' 0 8] := by
  have hw : w.toNat % 2 ^ 16 = w.toNat := Nat.mod_eq_of_lt w.isLt
  simp only [tablePacket, Packet.bytes, hw]
  congr 1
  apply BitVec.eq_of_toNat_eq
  simp [Nat.shiftRight_eq_div_pow]

/-- A word of the table is read as a command exactly when the decoder finds that command in its packet. -/
theorem decodeTableWord_eq_some_iff (nbits w : Nat) (k : Instr) :
    decodeTableWord nbits w = some k ↔ decode (tablePacket nbits w).bytes = .instr k := by
  unfold decodeTableWord
  cases decode (tablePacket nbits w).bytes <;> simp

/-- The only 16-bit pattern that is read as a command is its own (R72). -/
theorem decodeTableWord_iff (w : BitVec 16) (k : Instr) :
    decodeTableWord 16 w.toNat = some k ↔ w = encodeWord k := by
  rw [decodeTableWord_eq_some_iff, decode_eq_iff, tablePacket_bytes]
  constructor
  · rintro ⟨rest, h⟩
    obtain ⟨hhigh, htail⟩ := List.cons.inj h
    obtain ⟨hlow, -⟩ := List.cons.inj htail
    rw [encodeWord, ← hhigh, ← hlow, highByte_append_lowByte]
  · rintro rfl
    exact ⟨[], by cases k <;> rfl⟩

/-- The bytes as a packet, which holds at least one (R52). -/
def packetOf : List Byte → Option Packet
  | [] => none
  | b :: bs => some ⟨b, bs⟩

theorem packetOf_isSome (bytes : List Byte) : (packetOf bytes).isSome = !bytes.isEmpty := by
  cases bytes <;> rfl

theorem bytes_of_packetOf {bytes : List Byte} {p : Packet} (h : packetOf bytes = some p) : p.bytes = bytes := by
  cases bytes with
  | nil => cases h
  | cons b bs => obtain rfl := Option.some.inj h; rfl

theorem packet_data (bytes : List Byte) : (HostLine.data bytes).packet = packetOf bytes := by
  cases bytes <;> rfl

theorem packet_raw (bytes : List Byte) : (HostLine.raw bytes).packet = packetOf bytes := by
  cases bytes <;> rfl

/-- A `DATA512` line sends its bytes if they are 512 (R79). -/
theorem packet_data512 (bytes : List Byte) :
    (HostLine.data512 bytes).packet = if bytes.length = 512 then packetOf bytes else none := by
  cases bytes <;> rfl

end Sys2Proof
end

section
/-! SUPPORT. The engine's turn that takes a packet, whatever the schedule holds after it (R100, R101). -/

namespace Sys2Proof.Machine

/-- An engine turn in which no instruction runs. -/
theorem step_of_fetch_stay {s u : State} (he : s.engineNext = true) (h : fetch s.afterTurn = .stay u) :
    step s = .next u := by
  rw [step_of_engineNext s he, h]

/-- A packet that fits is taken into the frame buffer, which is then recognised (R100). -/
theorem fetch_of_fits {s : State} {p : Packet} {ps : List Packet} (hp : s.phase = .idle) (hq : s.rxq = p :: ps)
    (hfit : s.fbLen + p.bytes.length ≤ Config.frameCap) : fetch s = recognise (afterPoll p ps s) := by
  have hover : ¬ frameOverflows (rxTakePacket p ps s).fbLen p.bytes.length = true := by
    rw [frameOverflows, decide_eq_true_eq]
    exact Nat.not_lt.mpr hfit
  simp only [fetch, hp, poll, hq, if_neg hover]
  rfl

/-- An illegal code is the fault `BAD_COMMAND` (R101, R110). -/
theorem recognise_badCommand {s : State} {code : Byte} (hc : s.cmd = none) (hd : decode s.fb = .badCommand code) :
    recognise s = .stay (raise .badCommand s) := by
  simp only [recognise, hc, hd, if_true]

/-- Bytes that are no recognised frame stay (R74, R101). -/
theorem recognise_unrecognised {s : State} (hc : s.cmd = none)
    (hd : decode s.fb = .incomplete ∨ decode s.fb = .notPrefixed) : recognise s = .stay s := by
  obtain hd | hd := hd <;> simp only [recognise, hc, hd, if_true]

/-- A buffer that is too short, or does not begin with 0x42, is not recognised (R70, R74, D5). -/
theorem decode_unrecognised {bytes : List Byte}
    (h : bytes.length < 2 ∨ ∃ b0 rest, bytes = b0 :: rest ∧ b0 ≠ 0x42#8) :
    decode bytes = .incomplete ∨ decode bytes = .notPrefixed := by
  obtain hshort | ⟨b0, rest, rfl, hb⟩ := h
  · exact .inl ((decode_eq_iff _ _).mpr hshort)
  · cases rest with
    | nil => exact .inl rfl
    | cons b1 rest => exact .inr ((decode_eq_iff _ _).mpr ⟨b0, b1, rest, rfl, hb⟩)

end Sys2Proof.Machine
end

section
/-! SUPPORT. The reply of each command (R77): what a step sends, and which steps complete a command. -/

namespace Sys2Proof.Machine

/-- What a step of a command in this state sends: all of a reply or nothing (R105, R155, R175). -/
def State.reply (s : State) : List Byte :=
  match s.phase with
  | .ping => [0x50#8, 0x4F#8, 0x4E#8, 0x47#8]
  | .rdSend => s.xb.toList ++ trailer (crc32 s.xb.toList 512)
  | .wrAck => [0x42#8]
  | _ => []

/-- The phases whose step completes the command (R105, R106, R155, R175). -/
def Phase.completes (p : Phase) : Prop := p ∈ [Phase.ping, .session, .rdSend, .wrAck]

/-- A step of a command sends the reply of its phase, and completes the command in the completing phases. -/
theorem exec_reply {k : Instr} {s t : State} (h : exec k s = .next t) :
    t.txq = s.txq ++ s.reply ∧ (t.phase = .complete ↔ s.phase.completes) := by
  have heff := exec_effect k s t h
  unfold StepEffect at heff
  unfold State.reply Phase.completes
  cases hp : s.phase <;> simp only [hp] at heff ⊢
  case dispatch => subst heff; cases k <;> simp [routeOf]
  case rdCheck => obtain ⟨-, -, rfl⟩ | ⟨r, rfl⟩ := heff <;> simp [faultedAfter]
  case rdLoop => obtain ⟨b, ⟨xb, p, -, rfl | rfl, rfl⟩ | rfl⟩ := heff <;> simp [faultedAfter]
  case wrCheck => obtain ⟨-, rfl⟩ | rfl := heff <;> simp [faultedAfter]
  case wrRecv =>
    obtain ⟨-, rfl⟩ | ⟨p, ps, -, ⟨xb, i, ph, -, rfl | rfl, rfl⟩ | rfl⟩ := heff <;> simp [faultedAfter, hp]
  case wrLoop => obtain ⟨-, ⟨b, p, rfl | rfl, rfl⟩ | rfl⟩ := heff <;> simp [faultedAfter]
  all_goals subst heff; simp

/-- In the phases a command goes through, the reply of a completing phase is the command's own, and no other phase
replies. -/
theorem reply_length {k : Instr} {s : State} (h : s.phase = .idle ∨ s.phase.servedBy k = true) :
    (s.phase.completes → s.reply.length = replyLength k) ∧ (¬ s.phase.completes → s.reply = []) := by
  unfold State.reply Phase.completes
  cases hp : s.phase <;> simp only [hp] at h ⊢
  case ping | session | rdSend | wrAck =>
    obtain rfl := of_decide_eq_true (h.resolve_left nofun)
    simp [replyLength, trailer]
  all_goals simp

end Sys2Proof.Machine
end

section
/-! The statements of spec/30_encoding.md. -/

namespace Sys2Proof.Machine

/-- Settles O2: both directions are the decoder's reading of `.instr`. -/
theorem decodeAndEncodeAgree : Obligations.DecodeAndEncodeAgree := by
  unfold Obligations.DecodeAndEncodeAgree
  exact ⟨fun k rest _ => (decode_eq_iff _ (.instr k)).mpr ⟨rest, rfl⟩,
    fun k bytes h => (decode_eq_iff bytes (.instr k)).mp h⟩

/-- Settles O3: the decoder's reading of each other answer. -/
theorem otherFramesAreSorted : Obligations.OtherFramesAreSorted := by
  unfold Obligations.OtherFramesAreSorted
  exact fun bytes => ⟨decode_eq_iff bytes .incomplete, decode_eq_iff bytes .notPrefixed,
    fun code => decode_eq_iff bytes (.badCommand code)⟩

/-- Settles O42: a completing step sends the command's whole reply, and every other step sends nothing. -/
theorem repliesHaveTheirLength : Obligations.RepliesHaveTheirLength := by
  unfold Obligations.RepliesHaveTheirLength
  intro k s t hphase hx
  obtain ⟨hsent, hcomplete⟩ := exec_reply hx
  obtain ⟨hlen, hnone⟩ := reply_length hphase
  rw [hsent, List.length_append]
  by_cases ht : t.phase = .complete
  · rw [if_pos ht, hlen (hcomplete.mp ht)]
  · rw [if_neg ht, hnone (mt hcomplete.mpr ht), List.length_nil]

/-- Settles O54: the turn that accepts the frame, then the three turns of `PING`, which leave the slot, the phase and
the frame buffer as an idle block has them. -/
theorem pingRun : Obligations.PingRun := by
  unfold Obligations.PingRun
  intro s ps ht hp hc hfb hq
  have hfit : s.fbLen + (framePacket .ping).bytes.length ≤ Config.frameCap := by
    simp [State.fbLen, hfb, framePacket, Packet.bytes, Config.frameCap]
  have hstep := step_of_recognised (k := .ping) ht hp hc hq hfit (by rw [hfb]; rfl)
  have hrun := Runs.cons hstep (runs_ping ht rfl rfl)
  refine Eq.trans hrun (congrArg (Host.Outcome.next (σ := State)) ?_)
  simp [completeStep, pingStep, txSendAll_eq, acceptCommand, afterPoll, setPhase, indicate, record, hp, hc, hfb,
    framePacket, Packet.bytes, framePrefix, Instr.code]

/-- Settles O1: the rows are read off the table, and a 16-bit pattern is read as a command only if it is the command's
own. -/
theorem fiveFramesDecode : Obligations.FiveFramesDecode := by
  unfold Obligations.FiveFramesDecode
  intro rest
  have hword (k : Instr) : decodeTableWord 16 (encodeWord k).toNat = some k := (decodeTableWord_iff _ k).mpr rfl
  exact ⟨⟨rfl, rfl, hword .ping, decode_frame_append .ping rest⟩,
    ⟨rfl, rfl, hword .start, decode_frame_append .start rest⟩,
    ⟨rfl, rfl, hword .read, decode_frame_append .read rest⟩,
    ⟨rfl, rfl, hword .readm, decode_frame_append .readm rest⟩,
    ⟨rfl, rfl, hword .write, decode_frame_append .write rest⟩,
    fun w k => (decodeTableWord_iff w k).mp⟩

/-- Settles O4: a line of listed bytes sends them as its packet, unless they are none or, in `DATA512`, not 512. -/
theorem hostLinesSendTheirBytes : Obligations.HostLinesSendTheirBytes := by
  unfold Obligations.HostLinesSendTheirBytes
  intro l
  cases l with
  | command k =>
    refine ⟨by cases k <;> rfl, fun p h => ?_⟩
    obtain rfl := Option.some.inj h
    rfl
  | data bytes =>
    rw [packet_data]
    exact ⟨packetOf_isSome bytes, fun p => bytes_of_packetOf⟩
  | raw bytes =>
    rw [packet_raw]
    exact ⟨packetOf_isSome bytes, fun p => bytes_of_packetOf⟩
  | data512 bytes =>
    rw [packet_data512]
    by_cases hlen : bytes.length = 512
    · rw [if_pos hlen]
      have hne : bytes ≠ [] := by rintro rfl; cases hlen
      exact ⟨by simp [packetOf_isSome, HostLine.wf, hlen, hne], fun p => bytes_of_packetOf⟩
    · rw [if_neg hlen]
      exact ⟨by simp [HostLine.wf, hlen], nofun⟩

/-- Settles O9: the poll takes the packet, and the frame it completes is recognised with an illegal code. -/
theorem illegalCodeFaults : Obligations.IllegalCodeFaults := by
  unfold Obligations.IllegalCodeFaults
  intro s p ps code rest he hp hc hq hfit hfb hcode
  have hd : decode (s.fb ++ p.bytes) = .badCommand code := (decode_eq_iff _ _).mpr ⟨rest, hfb, hcode⟩
  have hfetch := (fetch_of_fits (s := s.afterTurn) hp hq hfit).trans
    (recognise_badCommand (s := afterPoll p ps s.afterTurn) hc hd)
  rw [step_of_fetch_stay he hfetch, raise_eq]
  simp [afterPoll, State.afterTurn]

/-- Settles O10: the poll takes the packet, and recognition leaves the bytes it does not recognise. -/
theorem unrecognisedBytesStay : Obligations.UnrecognisedBytesStay := by
  unfold Obligations.UnrecognisedBytesStay
  intro s p ps he hp hc hq hfit hbytes
  have hfetch := (fetch_of_fits (s := s.afterTurn) hp hq hfit).trans
    (recognise_unrecognised (s := afterPoll p ps s.afterTurn) hc (decode_unrecognised hbytes))
  exact step_of_fetch_stay he hfetch

end Sys2Proof.Machine
end

section
/-! SUPPORT. The frame of a step: each piece of state with the phases that may change it (spec/10_state.md,
spec/40_commands.md). -/

namespace Sys2Proof.Machine

/-- The phases that check a range, a mode or an index (R151, R153, R172, R173, R20). -/
def checkingPhases : List Phase := [.rdCheck, .rdLoop, .wrCheck, .wrRecv, .wrLoop]

/-- What one engine step of the command `k` leaves as it was, and from where it can become idle or fault. The hypotheses of
a field name the phases that may change that piece of state. The cursor, the transfer buffer and the transmit queue are in
`exec_cursor`, `exec_xb` and `exec_queues`. -/
structure StepFrame (k : Instr) (s t : State) : Prop where
  turns   : t.turns = s.turns
  fb      : s.phase ≠ .complete → t.fb = s.fb
  cmd     : s.phase ≠ .idle → s.phase ≠ .complete → t.cmd = s.cmd
  mode    : (s.phase = .dispatch → k = .ping ∨ k = .start) → t.mode = s.mode
  start   : s.phase ≠ .rdCheck → s.phase ≠ .wrSetup → t.start = s.start
  i       : s.phase ≠ .rdSetup → s.phase ≠ .rdLoop → s.phase ≠ .wrCheck → s.phase ≠ .wrRecv → s.phase ≠ .wrLoop →
    t.i = s.i
  lines   : s.phase ≠ .rdLoop → s.phase ≠ .wrLoop → t.lines = s.lines
  dout    : s.phase ≠ .wrLoop → t.dout = s.dout
  ddir    : s.phase ≠ .rdSetup → s.phase ≠ .wrSetup → t.ddir = s.ddir
  nOE     : s.phase ≠ .rdSetup → s.phase ≠ .rdLoop → s.phase ≠ .wrSetup → t.nOE = s.nOE
  nWE     : s.phase ≠ .wrSetup → s.phase ≠ .wrLoop → t.nWE = s.nWE
  crc     : s.phase ≠ .rdSend → t.crc = s.crc ∧ t.draws = s.draws
  rxq     : s.phase ≠ .wrRecv → t.rxq = s.rxq
  fault   : t.phase ≠ .faulted → t.faultReason = s.faultReason ∧ t.ind = s.ind
  faulted : t.phase = .faulted → s.phase ∈ checkingPhases
  idle    : t.phase = .idle → s.phase = .complete

/-- Every step of a command keeps its frame. -/
theorem exec_frame {k : Instr} {s t : State} (h : exec k s = .next t) : StepFrame k s t := by
  have heff := exec_effect k s t h
  unfold StepEffect at heff
  cases hp : s.phase <;> simp only [hp] at heff
  case dispatch => subst heff; cases k <;> constructor <;> simp [routeOf, hp]
  case rdCheck =>
    obtain ⟨-, -, rfl⟩ | ⟨r, rfl⟩ := heff <;> constructor <;> simp [faultedAfter, checkingPhases, hp]
  case rdLoop =>
    obtain ⟨b, ⟨xb, p, -, rfl | rfl, rfl⟩ | rfl⟩ := heff <;> constructor <;> simp [faultedAfter, checkingPhases, hp]
  case wrCheck => obtain ⟨-, rfl⟩ | rfl := heff <;> constructor <;> simp [faultedAfter, checkingPhases, hp]
  case wrRecv =>
    obtain ⟨-, rfl⟩ | ⟨p, ps, -, ⟨xb, i, ph, -, rfl | rfl, rfl⟩ | rfl⟩ := heff <;> constructor <;>
      simp [faultedAfter, checkingPhases, hp]
  case wrLoop =>
    obtain ⟨-, ⟨b, p, rfl | rfl, rfl⟩ | rfl⟩ := heff <;> constructor <;> simp [faultedAfter, checkingPhases, hp]
  all_goals subst heff; constructor <;> simp [hp]

end Sys2Proof.Machine
end

section
/-! The frames of the five commands (R105 to R109, R157, R178). -/

namespace Sys2Proof.Machine

/-- A command in the phases it goes through is in none that serves only other commands. -/
theorem ne_of_not_served {s : State} {k : Instr} {ks : List Instr} (hk : k ∈ ks)
    (h : s.phase = .idle ∨ s.phase.servedBy k = true) {p : Phase}
    (hp : p ≠ .idle ∧ ∀ j ∈ ks, p.servedBy j = false) : s.phase ≠ p := by
  rintro rfl
  obtain ⟨hi, hn⟩ := hp
  obtain h | h := h
  · exact hi h
  · rw [hn k hk] at h
    cases h

/-- Only `SESSION`, `RD_SEND` and `WR_ACK` write the cursor (R18). -/
theorem exec_cursor_frame {k : Instr} {s t : State} (h : exec k s = .next t) (h1 : s.phase ≠ .session)
    (h2 : s.phase ≠ .rdSend) (h3 : s.phase ≠ .wrAck) : t.cursor = s.cursor := by
  obtain hc | ⟨-, ⟨hp, -⟩ | ⟨hp | hp, -⟩⟩ := exec_cursor h
  · exact hc
  · exact absurd hp h1
  · exact absurd hp h2
  · exact absurd hp h3

/-- Only `PING`, `RD_SEND` and `WR_ACK` send (R53). -/
theorem exec_txq_frame {k : Instr} {s t : State} (h : exec k s = .next t) (h1 : s.phase ≠ .ping)
    (h2 : s.phase ≠ .rdSend) (h3 : s.phase ≠ .wrAck) : t.txq = s.txq := by
  obtain ⟨-, hq⟩ | ⟨-, hq⟩ | ⟨hp | hp | hp, -⟩ := exec_queues h
  · exact hq
  · exact hq
  · exact absurd hp h1
  · exact absurd hp h2
  · exact absurd hp h3

/-- Only `RD_LOOP` and `WR_RECV` store into the transfer buffer (R20). -/
theorem exec_xb_frame {k : Instr} {s t : State} (h : exec k s = .next t) (h1 : s.phase ≠ .rdLoop)
    (h2 : s.phase ≠ .wrRecv) : t.xb = s.xb := by
  obtain hxb | ⟨hp | hp, -⟩ := exec_xb h
  · exact hxb
  · exact absurd hp h1
  · exact absurd hp h2

/-- Settles O44: the two commands go through no phase that writes these registers, lines and queues, and through none that
faults; each is not in the other's own phase. -/
theorem pingAndStartFrame : Obligations.PingAndStartFrame := by
  unfold Obligations.PingAndStartFrame
  intro k s t hk hs hx
  have hf := exec_frame hx
  have hne {p : Phase} := ne_of_not_served (ks := [.ping, .start]) (by simpa using hk) hs (p := p)
  have hcheck : ∀ p ∈ checkingPhases, p ≠ .idle ∧ ∀ j ∈ [Instr.ping, .start], p.servedBy j = false := by decide
  have hsound : t.phase ≠ .faulted := fun h => hne (hcheck _ (hf.faulted h)) rfl
  obtain ⟨hreason, hind⟩ := hf.fault hsound
  obtain ⟨hcrc, hdraws⟩ := hf.crc (hne (by decide))
  refine ⟨hf.i ?_ ?_ ?_ ?_ ?_, hf.start ?_ ?_, hf.mode fun _ => hk, exec_xb_frame hx ?_ ?_, hcrc, hf.lines ?_ ?_,
    hf.ddir ?_ ?_, hf.dout ?_, hf.nOE ?_ ?_ ?_, hf.nWE ?_ ?_, hind, hreason, hf.rxq ?_, hf.turns, hdraws, hf.fb, hf.cmd,
    ?ping, ?start⟩
  case ping =>
    rintro rfl
    exact exec_cursor_frame hx (ne_of_not_served (ks := [.ping]) (by simp) hs (by decide)) (hne (by decide))
      (hne (by decide))
  case start =>
    rintro rfl
    exact exec_txq_frame hx (ne_of_not_served (ks := [.start]) (by simp) hs (by decide)) (hne (by decide))
      (hne (by decide))
  all_goals exact hne (by decide)

/-- Settles O45: each piece of state is written in one phase of the two reads, and its other writers are phases of other
commands. -/
theorem readsFrame : Obligations.ReadsFrame := by
  unfold Obligations.ReadsFrame
  intro k s t hk hs hx
  have hf := exec_frame hx
  have hne {p : Phase} := ne_of_not_served (ks := [.read, .readm]) (by simpa using hk) hs (p := p)
  refine ⟨hf.nWE ?_ ?_, hf.dout ?_, hf.rxq ?_, hf.turns, fun h => hf.lines h ?_, fun h => ?send, fun h => hf.ddir h ?_,
    fun h1 h2 => ⟨hf.nOE h1 h2 ?_, hf.i h1 h2 ?_ ?_ ?_⟩, fun h => hf.mode (absurd · h), fun h => hf.start h ?_, hf.fault,
    hf.fb, hf.cmd⟩
  case send =>
    obtain ⟨hcrc, hdraws⟩ := hf.crc h
    exact ⟨exec_cursor_frame hx (hne (by decide)) h (hne (by decide)), hcrc, hdraws,
      exec_txq_frame hx (hne (by decide)) h (hne (by decide))⟩
  all_goals exact hne (by decide)

/-- Settles O46: each piece of state is written in the phases of `WRITE` that the statement excepts, and its other writers
are phases of other commands. -/
theorem writeFrame : Obligations.WriteFrame := by
  unfold Obligations.WriteFrame
  intro s t hs hx
  have hf := exec_frame hx
  have hne {p : Phase} := ne_of_not_served (ks := [.write]) (by simp) hs (p := p)
  obtain ⟨hcrc, hdraws⟩ := hf.crc (hne (by decide))
  refine ⟨hcrc, hf.turns, hdraws, fun h => ⟨hf.lines ?_ h, hf.dout h⟩,
    fun h => ⟨exec_cursor_frame hx ?_ ?_ h, exec_txq_frame hx ?_ ?_ h⟩, hf.rxq,
    fun h => ⟨hf.ddir ?_ h, hf.nOE ?_ ?_ h, hf.start ?_ h⟩, hf.nWE, hf.i ?_ ?_, fun h => hf.mode (absurd · h), hf.fault,
    hf.fb, hf.cmd⟩
  all_goals exact hne (by decide)

end Sys2Proof.Machine
end

section
/-! SUPPORT. What an engine step does to the slot and the phase, and how its events end (R103, R104, R111). -/

namespace Sys2Proof.Machine

/-- The slot over an engine step: free in `IDLE`, emptied by `COMPLETE`, and kept from there on by a step that does not
become idle (R103, R104). -/
def SlotKept (s t : State) : Prop :=
  s.phase = .idle ∨ (s.phase = .complete ∧ t.cmd = none) ∨ (t.phase ≠ .idle ∧ t.cmd = s.cmd)

/-- A step of a command keeps the slot. -/
theorem exec_slot {k : Instr} {s t : State} (h : exec k s = .next t) : SlotKept s t := by
  by_cases hi : s.phase = .idle
  · exact .inl hi
  · by_cases hp : s.phase = .complete
    · obtain rfl := outcome_next_inj ((exec_complete hp).symm.trans h)
      exact .inr (.inl ⟨hp, rfl⟩)
    · exact .inr (.inr ⟨fun ht => hp ((exec_frame h).idle ht), (exec_frame h).cmd hi hp⟩)

/-- An engine step keeps the slot. -/
theorem step_slot {s t : State} (he : s.engineNext = true) (h : step s = .next t) : SlotKept s t := by
  -- `afterTurn` changes the schedule alone, of which `SlotKept` does not speak.
  change SlotKept s.afterTurn t
  obtain hs | ⟨k, u, hr, hx⟩ := step_engine s t he h
  · exact .inl (fetch_stay _ _ hs).1
  · obtain ⟨hp, -⟩ | ⟨-, -, -, rfl⟩ := fetch_run _ _ _ hr
    · exact .inl hp
    · exact exec_slot hx

/-- How the events of a step end: with the pulse when it completes a command, with the two events of fault entry when it
faults, and with no pulse among the others (R111, R211). -/
inductive EventsEnd (s t : State) : Prop where
  | goesOn (es : List Event) (hevt : t.evt = s.evt ++ es) (hno : pulses es = 0) (hc : t.phase ≠ .complete)
      (hf : t.phase ≠ .faulted)
  | completes (es : List Event) (hevt : t.evt = s.evt ++ (es ++ [.ind .pulse])) (hno : pulses es = 0)
      (hc : t.phase = .complete)
  | faults (es : List Event) (r : FaultReason) (hevt : t.evt = s.evt ++ (es ++ [.ind .fault, .fault r]))
      (hno : pulses es = 0) (hf : t.phase = .faulted) (hr : t.faultReason = some r)

/-- Fault entry after events without a pulse. -/
theorem eventsEnd_faultedAfter {s u : State} (r : FaultReason) (es es' : List Event) (hu : u.evt = s.evt ++ es')
    (hno : pulses (es' ++ es) = 0) : EventsEnd s (faultedAfter r es u) :=
  .faults (es' ++ es) r (by simp [faultedAfter, hu]) hno rfl rfl

/-- A reply has no pulse among its events. -/
theorem pulses_map_tx (bytes : List Byte) : pulses (bytes.map .tx) = 0 := by
  rw [pulses, List.count_eq_zero]
  simp

/-- The events of a command's step end as they should, phase by phase. -/
theorem exec_eventsEnd {k : Instr} {s t : State} (h : exec k s = .next t) : EventsEnd s t := by
  have heff := exec_effect k s t h
  unfold StepEffect at heff
  cases hp : s.phase <;> simp only [hp] at heff
  case idle => subst heff; exact .goesOn [] (by simp) rfl nofun nofun
  case dispatch => subst heff; cases k <;> exact .goesOn [] (by simp [routeOf]) rfl nofun nofun
  case ping => subst heff; exact .completes [.tx 0x50#8, .tx 0x4F#8, .tx 0x4E#8, .tx 0x47#8] rfl rfl rfl
  case session => subst heff; exact .completes [] rfl rfl rfl
  case rdCheck =>
    obtain ⟨-, -, rfl⟩ | ⟨r, rfl⟩ := heff
    · exact .goesOn [] (by simp) rfl nofun nofun
    · exact eventsEnd_faultedAfter r [] [] (by simp) rfl
  case rdSetup => subst heff; exact .goesOn _ rfl rfl nofun nofun
  case rdLoop =>
    obtain ⟨b, ⟨xb, p, -, rfl | rfl, rfl⟩ | rfl⟩ := heff
    · exact .goesOn _ rfl rfl nofun nofun
    · exact .goesOn _ rfl rfl nofun nofun
    · exact eventsEnd_faultedAfter _ _ [] (by simp) rfl
  case rdPost => subst heff; exact .goesOn _ rfl rfl nofun nofun
  case rdSend => subst heff; exact .completes _ rfl (pulses_map_tx _) rfl
  case wrSetup => subst heff; exact .goesOn _ rfl rfl nofun nofun
  case wrCheck =>
    obtain ⟨-, rfl⟩ | rfl := heff
    · exact .goesOn [] (by simp) rfl nofun nofun
    · exact eventsEnd_faultedAfter _ [] [] (by simp) rfl
  case wrRecv =>
    obtain ⟨-, rfl⟩ | ⟨p, ps, -, ⟨xb, i, ph, -, rfl | rfl, rfl⟩ | rfl⟩ := heff
    · exact .goesOn [] (by simp) rfl (by simp [hp]) (by simp [hp])
    · exact .goesOn _ rfl rfl nofun nofun
    · exact .goesOn _ rfl rfl nofun nofun
    · exact eventsEnd_faultedAfter _ _ [] (by simp) rfl
  case wrLoop =>
    obtain ⟨-, ⟨b, p, rfl | rfl, rfl⟩ | rfl⟩ := heff
    · exact .goesOn _ rfl rfl nofun nofun
    · exact .goesOn _ rfl rfl nofun nofun
    · exact eventsEnd_faultedAfter _ _ [] (by simp) rfl
  case wrAck => subst heff; exact .completes [.tx 0x42#8] rfl rfl rfl
  case complete => subst heff; exact .goesOn [] (by simp) rfl nofun nofun

/-- The events of a turn in which no instruction runs. -/
theorem fetch_stay_eventsEnd {s t : State} (h : fetch s = .stay t) : EventsEnd s t := by
  obtain ⟨hp, ⟨-, rfl⟩ | ⟨p, ps, -, ⟨-, rfl⟩ | ⟨-, -, rfl⟩ | ⟨-, -, rfl⟩⟩⟩ := fetch_stay s t h
  · exact .goesOn [] (by simp) rfl (by simp [hp]) (by simp [hp])
  · exact eventsEnd_faultedAfter _ _ [] (by simp) rfl
  · exact eventsEnd_faultedAfter _ [] [.rx p.bytes] rfl rfl
  · exact .goesOn [.rx p.bytes] rfl rfl (by simp [afterPoll, hp]) (by simp [afterPoll, hp])

/-- The events of an engine step. -/
theorem step_eventsEnd {s t : State} (he : s.engineNext = true) (h : step s = .next t) : EventsEnd s t := by
  have hafter : EventsEnd s.afterTurn t := by
    obtain hs | ⟨k, u, hr, hx⟩ := step_engine s t he h
    · exact fetch_stay_eventsEnd hs
    · obtain ⟨hp, -, p, ps, -, -, -, rfl⟩ | ⟨-, -, -, rfl⟩ := fetch_run _ _ _ hr
      · obtain rfl := outcome_next_inj ((exec_idle (s := afterPoll p ps s.afterTurn) hp).symm.trans hx)
        exact .goesOn [.rx p.bytes] rfl rfl nofun nofun
      · exact exec_eventsEnd hx
  obtain ⟨es, hevt, hno, hc, hf⟩ | ⟨es, hevt, hno, hc⟩ | ⟨es, r, hevt, hno, hf, hr⟩ := hafter
  · exact .goesOn es hevt hno hc hf
  · exact .completes es hevt hno hc
  · exact .faults es r hevt hno hf hr

end Sys2Proof.Machine
end

section
/-! The statements about the slot and the pulse (R103, R104, R111). -/

namespace Sys2Proof.Machine

/-- Settles O40: an engine step outside `IDLE` and `COMPLETE` keeps the slot and does not become idle. -/
theorem oneCommandInFlight : Obligations.OneCommandInFlight := by
  unfold Obligations.OneCommandInFlight
  intro s t he h
  obtain hi | ⟨hp, hc⟩ | ⟨ht, hc⟩ := step_slot he h
  · exact ⟨fun _ hne => absurd hi hne, fun _ => .inl hi⟩
  · exact ⟨fun _ _ => ⟨hp, hc⟩, fun _ => .inr ⟨hp, hc⟩⟩
  · exact ⟨fun hidle => absurd hidle ht, fun hne => absurd hc hne⟩

/-- Settles O41: a completing step appends its one pulse to events without one, a faulting step its two events. -/
theorem onePulsePerCommand : Obligations.OnePulsePerCommand := by
  unfold Obligations.OnePulsePerCommand
  intro s t he h
  cases step_eventsEnd he h with
  | goesOn es hevt hno hc hf => exact ⟨es, hevt, (absurd · hc), fun _ => hno, (absurd · hf)⟩
  | completes es hevt hno hc =>
    have hone : pulses (es ++ [.ind .pulse]) = 1 := by
      rw [pulses, List.count_append]
      exact congrArg (· + 1) hno
    refine ⟨_, hevt, fun _ => ⟨hone, by simp⟩, (absurd hc ·), fun hf => ?_⟩
    cases hc.symm.trans hf
  | faults es r hevt hno hf hr =>
    have hnone : pulses (es ++ [.ind .fault, .fault r]) = 0 := by
      rw [pulses, List.count_append]
      exact hno
    refine ⟨_, hevt, fun hc => ?_, fun _ => hnone, fun _ => ⟨r, hr, List.suffix_append _ _⟩⟩
    cases hf.symm.trans hc

end Sys2Proof.Machine
end

section
/-! SUPPORT. The engine's turn whatever the schedule holds after it: the packet that fits, the packet that does not, the
empty queue, the command in flight (R100, R101, R103); and the range check (R151). -/

namespace Sys2Proof.Machine

/-- A recognised command runs its meaning (R101). -/
theorem recognise_instr {s : State} {k : Instr} (hc : s.cmd = none) (hd : decode s.fb = .instr k) :
    recognise s = .run k s := by
  simp only [recognise, hc, hd, if_true]

/-- A packet beyond `FRAME_CAP` is taken and faults (R100). -/
theorem fetch_of_overflow {s : State} {p : Packet} {ps : List Packet} (hp : s.phase = .idle) (hq : s.rxq = p :: ps)
    (hlong : Config.frameCap < s.fbLen + p.bytes.length) :
    fetch s = .stay (raise .frameOverflow (rxTakePacket p ps s)) := by
  have hover : frameOverflows (rxTakePacket p ps s).fbLen p.bytes.length = true := decide_eq_true hlong
  simp only [fetch, hp, poll, hq, hover, if_true]

/-- An idle engine with an empty receive queue holds (R100, log entry 1). -/
theorem fetch_of_empty {s : State} (hp : s.phase = .idle) (hq : s.rxq = []) : fetch s = .stay s := by
  simp only [fetch, hp, poll, hq]

/-- An engine turn that runs an instruction. -/
theorem step_of_fetch_run {s u : State} {k : Instr} (he : s.engineNext = true) (h : fetch s.afterTurn = .run k u) :
    step s = exec k u := by
  rw [step_of_engineNext s he, h]

/-- The engine's turn that runs the command in flight (R103). -/
theorem step_eq_exec {s : State} {k : Instr} (he : s.engineNext = true) (hi : s.phase ≠ .idle)
    (hf : s.phase ≠ .faulted) (hc : s.cmd = some k) : step s = exec k s.afterTurn :=
  step_of_fetch_run he (fetch_inFlight s.afterTurn k hc hi hf)

/-- A block that waits for the host: idle, or a write without its data, with nothing received. -/
def State.waits (s : State) : Prop := s.rxq = [] ∧ (s.phase = .idle ∨ (s.phase = .wrRecv ∧ s.cmd = some .write))

/-- The engine's turn of a waiting block uses up the turn and nothing else (R100, R173, log entry 1). -/
theorem step_of_waits {s : State} (hw : s.waits) (he : s.engineNext = true) : step s = .next s.afterTurn := by
  obtain ⟨hq, hp | ⟨hp, hc⟩⟩ := hw
  · exact step_of_fetch_stay he (fetch_of_empty (s := s.afterTurn) hp hq)
  · rw [step_eq_exec he (by simp [hp]) (by simp [hp]) hc]
    exact exec_wrRecv_empty .write s.afterTurn hp hq

/-- With only engine turns a waiting block stays as it is. -/
theorem runs_of_waits {s : State} (hw : s.waits) (ht : s.turns = []) (n : Nat) : Runs n s s := by
  have hself : s.afterTurn = s := by
    rw [State.afterTurn, ht, List.tail_nil, ← ht]
  have he : s.engineNext = true := by simp only [State.engineNext, ht]
  have hstep : step s = .next s := (step_of_waits hw he).trans (congrArg (Host.Outcome.next (σ := State)) hself)
  induction n with
  | zero => exact .refl s
  | succ n ih => exact .cons hstep ih

/-- A block past the bound fails the range check (R151, R172). -/
theorem rangeViolated_of_gt {a : Addr} (h : a.toNat + 512 > 32768) : rangeViolated a = true := by
  rw [rangeViolated_iff]
  omega

/-- A read past the bound faults, whatever the mode (R151, D7). -/
theorem rdCheck_past_bound {s : State} (h : s.cursor.toNat + 512 > 32768) :
    rdCheck s = raise .rangeRead { s with start := s.cursor } := by
  simp only [rdCheck, rangeViolated_of_gt h, if_true]

/-- A read in range without mask-ROM mode faults (R151). -/
theorem rdCheck_eeprom {s : State} (h : s.cursor.toNat + 512 ≤ 32768) (hm : s.mode = .eeprom) :
    rdCheck s = raise .mode { s with start := s.cursor } := by
  simp [rdCheck, rangeViolated_of_le h, modeViolated, hm]

/-- A read in range and in mask-ROM mode passes its check (R151). -/
theorem rdCheck_mask {s : State} (h : s.cursor.toNat + 512 ≤ 32768) (hm : s.mode = .mask) :
    rdCheck s = { s with start := s.cursor, phase := .rdSetup } := by
  simp [rdCheck, rangeViolated_of_le h, modeViolated, hm, setPhase]

/-- `PING` as one record update (R105). -/
theorem pingStep_eq (s : State) :
    pingStep s = { s with
      txq := s.txq ++ [0x50#8, 0x4F#8, 0x4E#8, 0x47#8], phase := .complete,
      evt := s.evt ++ [.tx 0x50#8, .tx 0x4F#8, .tx 0x4E#8, .tx 0x47#8, .ind .pulse] } := by
  simp [pingStep, txSendAll_eq, indicate, record, setPhase]

end Sys2Proof.Machine
end

section
/-! The statements about single steps of spec/40_commands.md. -/

namespace Sys2Proof.Machine

/-- Settles O5: the poll takes the packet and recognises its command; a command in flight needs no poll. -/
theorem stepRunsTheCommand : Obligations.StepRunsTheCommand := by
  unfold Obligations.StepRunsTheCommand
  refine ⟨fun s p ps k he hp hc hq hfit hd _ => ?recognised, fun s k he hi hf hc => step_eq_exec he hi hf hc⟩
  case recognised =>
    have hfetch := (fetch_of_fits (s := s.afterTurn) hp hq hfit).trans
      (recognise_instr (s := afterPoll p ps s.afterTurn) hc hd)
    exact step_of_fetch_run he hfetch

/-- Settles O6: in `IDLE` the meaning of every command is its acceptance. -/
theorem recognitionFillsSlot : Obligations.RecognitionFillsSlot := by
  unfold Obligations.RecognitionFillsSlot
  exact fun s k hp => exec_idle hp

/-- Settles O7: both holds are turns of a waiting block, which its own turns keep waiting. -/
theorem holdsUntilTheHostSends : Obligations.HoldsUntilTheHostSends := by
  unfold Obligations.HoldsUntilTheHostSends
  intro s hq hp
  have hw : s.waits := ⟨hq, hp⟩
  refine ⟨step_of_waits hw, runs_of_waits hw, fun hrecv => ⟨?heldUp, ?quiescent⟩⟩
  case heldUp => simp [State.heldUp, hq, hrecv]
  case quiescent => simp [State.quiescent, hrecv]

/-- Settles O8: the overflow is found before the packet's bytes reach the frame buffer. -/
theorem overflowingPacketFaults : Obligations.OverflowingPacketFaults := by
  unfold Obligations.OverflowingPacketFaults
  intro s p ps he hp hq hlong
  rw [step_of_fetch_stay he (fetch_of_overflow (s := s.afterTurn) hp hq hlong), raise_eq]
  simp [rxTakePacket, record, State.afterTurn]

/-- Settles O12: each row is the command's own route. -/
theorem dispatchRoutesEachCommand : Obligations.DispatchRoutesEachCommand := by
  unfold Obligations.DispatchRoutesEachCommand
  exact fun s hp => ⟨exec_dispatch hp, exec_dispatch hp, exec_dispatch hp, exec_dispatch hp, exec_dispatch hp⟩

/-- Settles O13: the step of `PING` as one record update. -/
theorem pingSendsPong : Obligations.PingSendsPong := by
  unfold Obligations.PingSendsPong
  intro s hp
  rw [exec_ping hp, pingStep_eq]

/-- Settles O14: the step of `SESSION` writes the cursor and records the pulse. -/
theorem startResetsCursor : Obligations.StartResetsCursor := by
  unfold Obligations.StartResetsCursor
  exact fun s hp => exec_session hp

/-- Settles O15: a read routed in EEPROM mode fails the range check or, after it, the mode check. -/
theorem readAlwaysFaults : Obligations.ReadAlwaysFaults := by
  unfold Obligations.ReadAlwaysFaults
  intro s hp hm
  refine ⟨fun hpast => ?range, fun hin => ?mode⟩
  case range => rw [exec_rdCheck hp, rdCheck_past_bound hpast, raise_eq]
  case mode => rw [exec_rdCheck hp, rdCheck_eeprom hin hm, raise_eq]

/-- Settles O16: a read routed in mask-ROM mode can fail the range check alone. -/
theorem maskedReadChecksRange : Obligations.MaskedReadChecksRange := by
  unfold Obligations.MaskedReadChecksRange
  intro s hp hm
  refine ⟨fun hin => ?passes, fun hpast => ?faults⟩
  case passes => rw [exec_rdCheck hp, rdCheck_mask hin hm]
  case faults => rw [exec_rdCheck hp, rdCheck_past_bound hpast, raise_eq]

/-- Settles O25: completion is one record update; only the completing phases lead to it, and a step that does not fault
leaves the fault reason. -/
theorem completionClearsSlotAndFrame : Obligations.CompletionClearsSlotAndFrame := by
  unfold Obligations.CompletionClearsSlotAndFrame
  refine ⟨fun s k hp => exec_complete hp, fun s t k hx ht => ?reached, fun r s => nofun⟩
  case reached =>
    obtain ⟨hreason, -⟩ := (exec_frame hx).fault (by simp [ht])
    obtain ⟨-, hcompletes⟩ := exec_reply hx
    exact ⟨by simpa [Phase.completes] using hcompletes.mp ht, hreason⟩

end Sys2Proof.Machine
end

section
/-! SUPPORT. The traces of the loops: byte cycles at ascending addresses (R153, R173, R174), each drive's event being that of
its address alone (R134). -/

namespace Sys2Proof.Machine

/-- The lines a drive leaves do not depend on the levels before it (R134). -/
theorem driveLines_eq_linesAt (a : Addr) (m : Mode) (old : Lines) : driveLines a m old = linesAt a m := by
  have hupper : driveUpper a old.ul = driveUpper a Lines.allLow.ul := by
    ext j hj : 1
    exact (driveUpper_get a old.ul ⟨j, hj⟩).trans (driveUpper_get a Lines.allLow.ul ⟨j, hj⟩).symm
  cases m <;> simp only [linesAt, driveLines, hupper]

/-- The events of the byte cycles of a block that starts at address `a`, for the bytes from index `j` on: byte `j` at
`a + j`, and so on in ascending order. -/
def cyclesFrom (cycle : Addr → Byte → List Event) (a : Addr) (bytes : List Byte) (j : Nat) : List Event :=
  (bytes.zipIdx j).flatMap fun p => cycle (a + BitVec.ofNat 16 p.2) p.1

theorem cyclesFrom_nil (cycle : Addr → Byte → List Event) (a : Addr) (j : Nat) : cyclesFrom cycle a [] j = [] := rfl

theorem cyclesFrom_cons (cycle : Addr → Byte → List Event) (a : Addr) (b : Byte) (bs : List Byte) (j : Nat) :
    cyclesFrom cycle a (b :: bs) j = cycle (a + BitVec.ofNat 16 j) b ++ cyclesFrom cycle a bs (j + 1) := by
  simp only [cyclesFrom, List.zipIdx_cons, List.flatMap_cons]

/-- The cycles of the whole transfer buffer, by its indices. -/
theorem cyclesFrom_buffer (cycle : Addr → Byte → List Event) (a : Addr) (xb : Vector Byte Config.xbCap) :
    cyclesFrom cycle a xb.toList 0 =
      (List.finRange 512).flatMap fun k => cycle (a + BitVec.ofNat 16 k.val) (xb.get k) := by
  have hpairs : xb.toList.zipIdx = (List.finRange 512).map fun k => (xb.get k, k.val) := by
    apply List.ext_getElem
    · simp
    · intro n h1 h2
      simp [Vector.get]
  rw [cyclesFrom, hpairs, List.flatMap_map]

/-- The address of a byte cycle, by the index as a number. -/
theorem cycleAddr_eq (s : State) : cycleAddr s = s.start + BitVec.ofNat 16 s.i.toNat := by
  rw [cycleAddr, BitVec.ofNat_toNat]

@[simp] theorem afterReadCycle_i (b : Byte) (p : Phase) (s : State) (h : s.i.toNat < 512) :
    (afterReadCycle b p s h).i = s.i + 1#10 := rfl
@[simp] theorem afterReadCycle_start (b : Byte) (p : Phase) (s : State) (h : s.i.toNat < 512) :
    (afterReadCycle b p s h).start = s.start := rfl
@[simp] theorem afterReadCycle_xb (b : Byte) (p : Phase) (s : State) (h : s.i.toNat < 512) :
    (afterReadCycle b p s h).xb = s.xb.set s.i.toNat b h := rfl

/-- A read cycle leaves the lines of its address and records the events of its byte (R153). -/
theorem afterReadCycle_eq (b : Byte) (p : Phase) (s : State) (h : s.i.toNat < 512) :
    afterReadCycle b p s h = { s with
      lines := linesAt (cycleAddr s) .mask, nOE := Level.high, xb := s.xb.set s.i.toNat b h, i := s.i + 1#10, phase := p,
      evt := s.evt ++ readCycleEvents (cycleAddr s) b } := by
  simp only [afterReadCycle, driveLines_eq_linesAt, readCycleEvents]

/-- A write cycle leaves the lines of its address and records the events of its byte (R174). -/
theorem afterWriteCycle_eq (p : Phase) (s : State) (h : s.i.toNat < 512) :
    afterWriteCycle p s h = { s with
      lines := linesAt (cycleAddr s) .eeprom, dout := s.xb[s.i.toNat], nWE := Level.high, i := s.i + 1#10, phase := p,
      evt := s.evt ++ writeCycleEvents (cycleAddr s) s.xb[s.i.toNat] } := by
  simp only [afterWriteCycle, driveLines_eq_linesAt, writeCycleEvents]

/-- The state after the read loop of a block, with the buffer `xb` and the loop's events `es` (R153). -/
def afterReadLoop (xb : Vector Byte Config.xbCap) (es : List Event) (s : State) : State :=
  { s with
    lines := linesAt (s.start + 511#16) .mask, nOE := Level.high, xb := xb, i := 512#10, phase := .rdPost,
    evt := s.evt ++ es }

/-- The last read cycle ends the loop. -/
theorem afterReadCycle_last (b : Byte) (s : State) (h : s.i.toNat < 512) (hl : s.i.toNat = 511) :
    afterReadCycle b .rdPost s h =
      afterReadLoop (s.xb.set s.i.toNat b h) (cyclesFrom readCycleEvents s.start [b] s.i.toNat) s := by
  have hend : s.i + 1#10 = 512#10 := (succ_eq_512_iff s.i).mpr hl
  rw [afterReadCycle_eq, cycleAddr_eq, cyclesFrom_cons, cyclesFrom_nil, hend, List.append_nil]
  simp only [afterReadLoop, hl]

/-- A read cycle before the rest of the loop. -/
theorem afterReadLoop_afterReadCycle (b : Byte) (xb : Vector Byte Config.xbCap) (bs : List Byte) (s : State)
    (h : s.i.toNat < 512) :
    afterReadLoop xb (cyclesFrom readCycleEvents s.start bs (s.i.toNat + 1)) (afterReadCycle b .rdLoop s h) =
      afterReadLoop xb (cyclesFrom readCycleEvents s.start (b :: bs) s.i.toNat) s := by
  rw [afterReadCycle_eq, cycleAddr_eq, cyclesFrom_cons]
  simp only [afterReadLoop, List.append_assoc]

/-- The read loop from any index to its end, with its trace: the bytes sampled fill the rest of the buffer, each in the
cycle at its address (R153). -/
theorem runs_rdLoop_trace (n : Nat) (s : State) (ht : s.turns = []) (hc : s.cmd = some .readm) (hp : s.phase = .rdLoop)
    (hi : s.i.toNat + n = 511) :
    ∃ (bytes : List Byte) (xb : Vector Byte Config.xbCap), xb.toList = s.xb.toList.take s.i.toNat ++ bytes ∧
      Runs (n + 1) s (afterReadLoop xb (cyclesFrom readCycleEvents s.start bytes s.i.toNat) s) := by
  have hlt : s.i.toNat < 512 := by omega
  have hs : s.phase.servedBy .readm = true := by rw [hp]; rfl
  induction n generalizing s with
  | zero =>
    obtain ⟨b, hx⟩ := exec_rdLoop_within .readm s hp hlt
    have hl : s.i.toNat = 511 := hi
    rw [if_pos hl, afterReadCycle_last b s hlt hl] at hx
    refine ⟨[b], _, ?_, .cons (step_of_inFlight ht hc hs hx) (.refl _)⟩
    rw [← take_succ_set s.xb b hlt, List.take_of_length_le (by simp [hl])]
  | succ n ih =>
    obtain ⟨b, hx⟩ := exec_rdLoop_within .readm s hp hlt
    have hl : s.i.toNat ≠ 511 := by omega
    rw [if_neg hl] at hx
    have hnext := toNat_succ_of_lt hlt
    obtain ⟨bs, xb, hxb, hrest⟩ := ih (afterReadCycle b .rdLoop s hlt) ht hc rfl
      (by simp only [afterReadCycle]; omega) (succ_lt_512 hlt hl) rfl
    simp only [afterReadCycle_i, afterReadCycle_start, afterReadCycle_xb, hnext] at hxb hrest
    rw [afterReadLoop_afterReadCycle] at hrest
    refine ⟨b :: bs, xb, ?_, .cons (step_of_inFlight ht hc hs hx) hrest⟩
    rw [hxb, take_succ_set s.xb b hlt, List.append_assoc, List.singleton_append]

end Sys2Proof.Machine
end

section
/-! SUPPORT. The two loops of a write with their traces (R173, R174). -/

namespace Sys2Proof.Machine

/-- The state after the receive loop, with the queue `rxq`, the buffer `xb` and the loop's events `es` (R173). -/
def afterReceiveLoop (rxq : List Packet) (xb : Vector Byte Config.xbCap) (es : List Event) (s : State) : State :=
  { s with rxq := rxq, xb := xb, i := 0#10, phase := .wrLoop, evt := s.evt ++ es }

/-- A received byte before the rest of the loop. -/
theorem afterReceiveLoop_afterReceive (b : Byte) (q rxq : List Packet) (i : BitVec 10) (xb : Vector Byte Config.xbCap)
    (bs : List Byte) (s : State) (h : s.i.toNat < 512) :
    afterReceiveLoop rxq xb (bs.map fun b => .rx [b]) (afterReceive b q i .wrRecv s h) =
      afterReceiveLoop rxq xb ((b :: bs).map fun b => .rx [b]) s := by
  simp only [afterReceiveLoop, afterReceive, List.map_cons, List.append_assoc, List.singleton_append]

/-- The receive loop from any index to its end, with its trace: `runs_wrRecv` with each byte's single receive (R173). -/
theorem runs_wrRecv_trace (n : Nat) (s : State) (data tail : List Byte) (ht : s.turns = []) (hc : s.cmd = some .write)
    (hp : s.phase = .wrRecv) (hi : s.i.toNat + n = 511) (hlen : data.length = n + 1)
    (hq : s.rxq.flatMap Packet.bytes = data ++ tail) :
    ∃ (rxq : List Packet) (xb : Vector Byte Config.xbCap),
      rxq.flatMap Packet.bytes = tail ∧ xb.toList = s.xb.toList.take s.i.toNat ++ data ∧
      Runs (n + 1) s (afterReceiveLoop rxq xb (data.map fun b => .rx [b]) s) := by
  have hlt : s.i.toNat < 512 := by omega
  have hs : s.phase.servedBy .write = true := by rw [hp]; rfl
  induction n generalizing s data with
  | zero =>
    obtain ⟨b, rfl⟩ := List.length_eq_one_iff.mp hlen
    obtain ⟨rxq, hrxq, hx⟩ := exec_wrRecv_bytes .write s b tail hp hq hlt
    have hl : s.i.toNat = 511 := hi
    rw [if_pos hl, if_pos hl] at hx
    refine ⟨rxq, _, hrxq, ?_, .cons (step_of_inFlight ht hc hs hx) (.refl _)⟩
    rw [← take_succ_set s.xb b hlt, List.take_of_length_le (by simp [hl])]
  | succ n ih =>
    obtain ⟨b, bs, rfl⟩ := List.exists_cons_of_length_eq_add_one hlen
    obtain ⟨q, hbytes, hx⟩ := exec_wrRecv_bytes .write s b (bs ++ tail) hp hq hlt
    have hl : s.i.toNat ≠ 511 := by omega
    rw [if_neg hl, if_neg hl] at hx
    have hnext := toNat_succ_of_lt hlt
    have hi' : (s.i + 1#10).toNat + n = 511 := by omega
    obtain ⟨rxq, xb, htail, hxb, hrest⟩ := ih (afterReceive b q (s.i + 1#10) .wrRecv s hlt) bs ht hc rfl hi'
      (Nat.succ.inj hlen) hbytes (succ_lt_512 hlt hl) rfl
    rw [afterReceiveLoop_afterReceive] at hrest
    refine ⟨rxq, xb, htail, ?_, .cons (step_of_inFlight ht hc hs hx) hrest⟩
    rw [hxb]
    simp only [afterReceive, hnext]
    rw [take_succ_set s.xb b hlt, List.append_assoc, List.singleton_append]

/-- The state after the write loop of a block, with the loop's events `es` (R174). -/
def afterWriteLoop (es : List Event) (s : State) : State :=
  { s with
    lines := linesAt (s.start + 511#16) .eeprom, dout := s.xb.get 511, nWE := Level.high, i := 512#10, phase := .wrAck,
    evt := s.evt ++ es }

/-- The write cycles of the buffer from the index on. -/
def restOfWrite (s : State) : List Event :=
  cyclesFrom writeCycleEvents s.start (s.xb.toList.drop s.i.toNat) s.i.toNat

/-- The first of them is the cycle at the index. -/
theorem restOfWrite_eq (s : State) (h : s.i.toNat < 512) :
    restOfWrite s = writeCycleEvents (cycleAddr s) s.xb[s.i.toNat] ++
      cyclesFrom writeCycleEvents s.start (s.xb.toList.drop (s.i.toNat + 1)) (s.i.toNat + 1) := by
  have hlen : s.i.toNat < s.xb.toList.length := by simpa using h
  rw [restOfWrite, List.drop_eq_getElem_cons hlen, cyclesFrom_cons, cycleAddr_eq, Vector.getElem_toList]

/-- The last write cycle ends the loop. -/
theorem afterWriteCycle_last (s : State) (h : s.i.toNat < 512) (hl : s.i.toNat = 511) :
    afterWriteCycle .wrAck s h = afterWriteLoop (restOfWrite s) s := by
  have hend : s.i + 1#10 = 512#10 := (succ_eq_512_iff s.i).mpr hl
  have hnone : s.xb.toList.drop (s.i.toNat + 1) = [] := List.drop_of_length_le (by simp [hl])
  rw [restOfWrite_eq s h, hnone, cyclesFrom_nil, List.append_nil, afterWriteCycle_eq, cycleAddr_eq, hend]
  simp only [afterWriteLoop, hl]
  rfl

/-- A write cycle before the rest of the loop. -/
theorem afterWriteLoop_afterWriteCycle (s : State) (h : s.i.toNat < 512) :
    afterWriteLoop (restOfWrite (afterWriteCycle .wrLoop s h)) (afterWriteCycle .wrLoop s h) =
      afterWriteLoop (restOfWrite s) s := by
  have hnext := toNat_succ_of_lt h
  have hrest : restOfWrite (afterWriteCycle .wrLoop s h) =
      cyclesFrom writeCycleEvents s.start (s.xb.toList.drop (s.i.toNat + 1)) (s.i.toNat + 1) := by
    simp only [restOfWrite, afterWriteCycle, hnext]
  rw [hrest, restOfWrite_eq s h, afterWriteCycle_eq]
  simp only [afterWriteLoop, List.append_assoc]

/-- The write loop from any index to its end, with its trace (R174). -/
theorem runs_wrLoop_trace (n : Nat) (s : State) (ht : s.turns = []) (hc : s.cmd = some .write)
    (hp : s.phase = .wrLoop) (hm : s.mode = .eeprom) (hi : s.i.toNat + n = 511) :
    Runs (n + 1) s (afterWriteLoop (restOfWrite s) s) := by
  have hlt : s.i.toNat < 512 := by omega
  have hs : s.phase.servedBy .write = true := by rw [hp]; rfl
  induction n generalizing s with
  | zero =>
    have hx := exec_wrLoop_within .write s hp hm hlt
    have hl : s.i.toNat = 511 := hi
    rw [if_pos hl, afterWriteCycle_last s hlt hl] at hx
    exact .cons (step_of_inFlight ht hc hs hx) (.refl _)
  | succ n ih =>
    have hx := exec_wrLoop_within .write s hp hm hlt
    have hl : s.i.toNat ≠ 511 := by omega
    rw [if_neg hl] at hx
    have hnext := toNat_succ_of_lt hlt
    have hrest := ih (afterWriteCycle .wrLoop s hlt) ht hc rfl hm (by simp only [afterWriteCycle]; omega)
      (succ_lt_512 hlt hl) rfl
    rw [afterWriteLoop_afterWriteCycle] at hrest
    exact .cons (step_of_inFlight ht hc hs hx) hrest

end Sys2Proof.Machine
end

section
/-! The statements about whole commands of spec/40_commands.md. -/

namespace Sys2Proof.Machine

/-- Settles O56: three turns of check and set-up, the loop over the whole buffer, three turns of delay, reply and
completion. -/
theorem maskedReadRun : Obligations.MaskedReadRun := by
  unfold Obligations.MaskedReadRun
  intro s ht hp hc hr
  obtain ⟨bytes, xb, hxb, hloop⟩ := runs_rdLoop_trace 511 (readyToRead s) ht hc rfl rfl
  obtain rfl : xb.toList = bytes := hxb
  have hcycles : Runs 512 (readyToRead s)
      (afterReadLoop xb (cyclesFrom readCycleEvents s.cursor xb.toList 0) (readyToRead s)) := hloop
  rw [cyclesFrom_buffer] at hcycles
  refine ⟨_, (runs_readm_setup ht hc hp hr).trans (hcycles.trans (runs_readm_end ht hc rfl)), ?_⟩
  rw [rdSend_eq]
  refine ⟨rfl, rfl, rfl, rfl, rfl, ?_, rfl, rfl, rfl, rfl, ?_⟩
  · exact (List.append_assoc _ _ _).symm
  · simp [rdPost, afterReadLoop, readyToRead]

/-- Settles O58: three turns of set-up and check, 512 receives that fill the buffer, 512 write cycles of the filled buffer,
two turns of acknowledgment and completion. -/
theorem writeRun : Obligations.WriteRun := by
  unfold Obligations.WriteRun
  intro s data rest ht hp hc hr hq hlen
  obtain ⟨rxq, xb, hrest, hxb, hrecv⟩ := runs_wrRecv_trace 511 (readyToReceive s) data rest ht hc rfl rfl hlen hq
  obtain rfl : xb.toList = data := hxb
  have hloop := runs_wrLoop_trace 511
    (afterReceiveLoop rxq xb (xb.toList.map fun b => .rx [b]) (readyToReceive s)) ht hc rfl rfl rfl
  have hcycles : restOfWrite (afterReceiveLoop rxq xb (xb.toList.map fun b => .rx [b]) (readyToReceive s)) =
      (List.finRange 512).flatMap fun k => writeCycleEvents (s.cursor + BitVec.ofNat 16 k.val) (xb.get k) :=
    cyclesFrom_buffer writeCycleEvents s.cursor xb
  rw [hcycles] at hloop
  refine ⟨_, (runs_write_setup ht hc hp hr).trans (hrecv.trans (hloop.trans (runs_write_end ht hc rfl))), ?_⟩
  rw [wrAck_eq]
  refine ⟨rfl, rfl, rfl, rfl, rfl, hrest, rfl, rfl, rfl, rfl, rfl, rfl, rfl, ?_⟩
  simp [afterWriteLoop, afterReceiveLoop, readyToReceive]

end Sys2Proof.Machine
end

section
/-! SUPPORT. The address bus driver read line by line, and the rows of its table (spec/41_address_bus.md R130 to R136). -/

namespace Sys2Proof.Machine

variable (a : Addr) (m : Mode) (old : Lines)

/-- `PA[k]` carries logical bit `k` in both modes (R130). -/
@[simp] theorem driveLines_level_pa (k : Fin 8) : (driveLines a m old).level (.pa k) = a.getLsbD k.val := by
  cases m <;> simp [driveLines, Lines.level]

/-- `UL[σ(k)]` carries logical bit `8+k` in both modes (R131). -/
@[simp] theorem driveLines_level_ul (k : Fin 6) :
    (driveLines a m old).level (.ul (Config.addrPerm k)) = a.getLsbD (8 + k.val) := by
  cases m <;> exact driveUpper_addrPerm a old.ul k

/-- Every line that the mode gives to the top bit carries logical bit 14 (R132). -/
theorem driveLines_level_of_mem_topBitLines {line : Line} (h : line ∈ topBitLines m) :
    (driveLines a m old).level line = a.getLsbD 14 := by
  cases m with
  | mask =>
    obtain rfl | rfl : line = .ha ∨ line = .vsel := by simpa [topBitLines] using h
    · rfl
    · rfl
  | eeprom =>
    obtain rfl : line = .ex := by simpa [topBitLines] using h
    rfl

/-- A top line that the mode does not give to the top bit carries its undriven level (R132, D13). -/
theorem driveLines_level_of_notMem_topBitLines {line : Line} (htop : line ∈ [.ha, .vsel, .ex])
    (h : line ∉ topBitLines m) : (driveLines a m old).level line = Config.undrivenLvl line m := by
  cases m with
  | mask =>
    obtain rfl : line = .ex := by grind [topBitLines]
    rfl
  | eeprom =>
    obtain rfl | rfl : line = .ha ∨ line = .vsel := by grind [topBitLines]
    · rfl
    · rfl

/-- The rows of the table: one per line of the low port, one per upper line, the top bit's row, and the row of bit 15, which
drives nothing (R133, R136). -/
theorem mem_bitAssignment {m : Mode} {row : Nat × List Line} :
    row ∈ bitAssignment m ↔ (∃ k : Fin 8, row = (k.val, [.pa k])) ∨
      (∃ k : Fin 6, row = (8 + k.val, [.ul (Config.addrPerm k)])) ∨ row = (14, topBitLines m) ∨ row = (15, []) := by
  simp [bitAssignment, Fin.exists_fin_succ, or_assoc]

/-- A line of a row carries the row's logical bit (R136). -/
theorem driveLines_level_of_mem_row {row : Nat × List Line} {line : Line} (hrow : row ∈ bitAssignment m)
    (hline : line ∈ row.2) : (driveLines a m old).level line = a.getLsbD row.1 := by
  obtain ⟨k, rfl⟩ | ⟨k, rfl⟩ | rfl | rfl := mem_bitAssignment.mp hrow
  · obtain rfl := List.mem_singleton.mp hline
    exact driveLines_level_pa a m old k
  · obtain rfl := List.mem_singleton.mp hline
    exact driveLines_level_ul a m old k
  · exact driveLines_level_of_mem_topBitLines a m old hline
  · exact absurd hline List.not_mem_nil

/-- A line in no row carries its undriven level: the low port has its eight rows and, σ being onto, every upper line has
one, so only a top line of the other mode is left (R132, R136). -/
theorem driveLines_level_of_notMem_rows {line : Line} (h : ∀ row ∈ bitAssignment m, line ∉ row.2) :
    (driveLines a m old).level line = Config.undrivenLvl line m := by
  have htop : line ∉ topBitLines m := h (14, topBitLines m) (mem_bitAssignment.mpr (.inr (.inr (.inl rfl))))
  cases line with
  | pa k => exact absurd (List.mem_singleton_self _) (h _ (mem_bitAssignment.mpr (.inl ⟨k, rfl⟩)))
  | ul j =>
    obtain ⟨k, rfl⟩ := Config.addrPerm.surjective j
    exact absurd (List.mem_singleton_self _) (h _ (mem_bitAssignment.mpr (.inr (.inl ⟨k, rfl⟩))))
  | ha | vsel | ex => exact driveLines_level_of_notMem_topBitLines a m old (by simp) htop

/-- Each of the 15 low logical bits has a line that carries it, whatever the address (R135, R136). -/
theorem exists_line_carrying_bit {n : Nat} (hn : n < 15) :
    ∃ line : Line, ∀ (a : Addr) (old : Lines), (driveLines a m old).level line = a.getLsbD n := by
  obtain hlow | ⟨hupper, htop⟩ | rfl : n < 8 ∨ (8 ≤ n ∧ n < 14) ∨ n = 14 := by omega
  · exact ⟨.pa ⟨n, hlow⟩, fun a old => driveLines_level_pa a m old ⟨n, hlow⟩⟩
  · obtain ⟨k, rfl⟩ := Nat.exists_eq_add_of_le hupper
    have hk : k < 6 := by omega
    exact ⟨.ul (Config.addrPerm ⟨k, hk⟩), fun a old => driveLines_level_ul a m old ⟨k, hk⟩⟩
  · have hne : topBitLines m ≠ [] := by cases m <;> simp [topBitLines]
    obtain ⟨line, hline⟩ := List.exists_mem_of_ne_nil _ hne
    exact ⟨line, fun a old => driveLines_level_of_mem_topBitLines a m old hline⟩

/-- An address below `BOUND` has no bit from 15 on. -/
theorem getLsbD_of_lt_bound {a : Addr} (ha : a.toNat < Config.bound) {n : Nat} (hn : 15 ≤ n) : a.getLsbD n = false :=
  Nat.testBit_lt_two_pow (ha.trans_le (Nat.pow_le_pow_right (by decide : 0 < 2) hn))

end Sys2Proof.Machine
end

section
/-! The statements about the address bus driver of spec/41_address_bus.md. -/

namespace Sys2Proof.Machine

/-- Settles O47: the rows of the table case by case, and the lines that none of them names. -/
theorem driverFollowsTheTable : Obligations.DriverFollowsTheTable := by
  unfold Obligations.DriverFollowsTheTable
  exact fun a m old => ⟨fun _ hrow _ hline => driveLines_level_of_mem_row a m old hrow hline,
    fun _ h => driveLines_level_of_notMem_rows a m old h⟩

/-- Settles O48: every drive gives the lines of its address alone; bits 0 to 14 can be read back from a line each, and bit 15
of an address below `BOUND` is 0. -/
theorem driverIsPureAndInjective : Obligations.DriverIsPureAndInjective := by
  unfold Obligations.DriverIsPureAndInjective
  refine ⟨fun a m old old' => ?pure, fun a b m old old' ha hb hlines => ?injective⟩
  case pure => rw [driveLines_eq_linesAt, driveLines_eq_linesAt a m old']
  case injective =>
    refine BitVec.eq_of_getLsbD_eq fun n _ => ?_
    obtain hn | hn := Nat.lt_or_ge n 15
    · obtain ⟨line, hline⟩ := exists_line_carrying_bit m hn
      rw [← hline a old, ← hline b old', hlines]
    · rw [getLsbD_of_lt_bound ha hn, getLsbD_of_lt_bound hb hn]

end Sys2Proof.Machine
end

section
/-! SUPPORT. The set-up of a block read as one record update, and what the target sees when a read cycle samples (R152, R153). -/

namespace Sys2Proof.Machine

/-- `RD_SETUP` as one record update (R152). -/
theorem rdSetup_eq (s : State) :
    rdSetup s = { s with
      ddir := .input, nOE := Level.high, i := 0#10, phase := .rdLoop,
      evt := s.evt ++ [.ddir .input, .oe Level.high, .delay .rdPre] } := by
  simp [rdSetup, setDdir, setOE, delay, record]

/-- Both directions of the data lines in one equation (R24, D31). -/
theorem drivenData_eq_ite (s : State) : drivenData s = if s.ddir = .input then none else some s.dout := by
  cases hd : s.ddir with
  | input => exact drivenData_of_input s hd
  | output => exact drivenData_of_output s hd

/-- The history the target has seen when a read cycle samples: the drive, the active output-enable, the settle delay
(R153). -/
theorem readAccess_evt (s : State) :
    (readAccess s).evt =
      s.evt ++ [.lines (driveLines (cycleAddr s) .mask s.lines), .oe Level.low, .delay .rdSettle] := by
  simp [readAccess]

/-- The line state the target sees when a read cycle samples (R11, R24, R153). -/
theorem physical_readAccess (s : State) :
    physical (readAccess s) =
      { lines := driveLines (cycleAddr s) .mask s.lines, ddir := s.ddir,
        data := if s.ddir = .input then none else some s.dout, nOE := Level.low, nWE := s.nWE } := by
  rw [physical, drivenData_eq_ite]
  rfl

end Sys2Proof.Machine
end

section
/-! The statements about single steps of spec/42_block_read.md. -/

namespace Sys2Proof.Machine

/-- Settles O17: the set-up step as one record update. -/
theorem readSetupConfiguresBus : Obligations.ReadSetupConfiguresBus := by
  unfold Obligations.ReadSetupConfiguresBus
  intro s hp
  rw [exec_rdSetup hp, rdSetup_eq]

/-- Settles O18: the byte stored is the target's answer to the history and the lines that the access leaves, and its sample
stands in the trace between the access and the release of output-enable. -/
theorem readCycleStoresTheSample : Obligations.ReadCycleStoresTheSample := by
  unfold Obligations.ReadCycleStoresTheSample
  intro s h hp l before b
  have hb : busSample (readAccess s) = b := by
    rw [busSample, readAccess_evt, physical_readAccess]
    rfl
  have hevt : before ++ [.sample b, .oe Level.high] =
      s.evt ++ [.lines l, .oe Level.low, .delay .rdSettle, .sample b, .oe Level.high] :=
    List.append_assoc _ _ _
  rw [exec_rdLoop_sample .readm s hp h, hb, hevt]
  rfl

/-- Settles O19: the delay step, then the send step, whose reply ends in the four bytes of the block's checksum. -/
theorem readSendsBlockAndTrailer : Obligations.ReadSendsBlockAndTrailer := by
  unfold Obligations.ReadSendsBlockAndTrailer
  refine fun s => ⟨fun hp => exec_rdPost hp, fun hp => ?send⟩
  case send =>
    rw [exec_rdSend hp, rdSend_eq, ← List.append_assoc s.evt]
    rfl

end Sys2Proof.Machine
end

section
/-! SUPPORT. The page base as a multiple of the page size (R176), and the remaining steps of a block write by their cases
(R171, R172, R174). -/

namespace Sys2Proof.Machine

/-- Clearing the low `n` bits shifts them out and zeros in. -/
theorem and_not_two_pow_sub_one_eq_shift (a : Addr) (n : Nat) :
    a &&& ~~~ BitVec.ofNat 16 (2 ^ n - 1) = a >>> n <<< n := by
  refine BitVec.eq_of_getLsbD_eq fun i hi => ?_
  simp only [BitVec.getLsbD_and, BitVec.getLsbD_not, BitVec.getLsbD_ofNat, Nat.testBit_two_pow_sub_one,
    BitVec.getLsbD_shiftLeft, BitVec.getLsbD_ushiftRight, hi]
  by_cases hn : i < n
  case pos => simp [hn]
  case neg => simp [hn, Nat.add_sub_cancel' (Nat.le_of_not_lt hn)]

/-- The page base is the page's number times the page size (R176). -/
theorem toNat_pageBase (a : Addr) : (pageBase a).toNat = Config.pageSize * (a.toNat / Config.pageSize) := by
  have hlt : Config.pageSize * (a.toNat / Config.pageSize) < 2 ^ 16 := (Nat.mul_div_le _ _).trans_lt a.isLt
  unfold Config.pageSize at hlt
  rw [pageBase, Config.pageSize, and_not_two_pow_sub_one_eq_shift, BitVec.toNat_shiftLeft, BitVec.toNat_ushiftRight,
    Nat.shiftRight_eq_div_pow, Nat.shiftLeft_eq, Nat.mul_comm, Nat.mod_eq_of_lt hlt]

/-- `WR_SETUP` as one record update (R171). -/
theorem wrSetup_eq (s : State) :
    wrSetup s = { s with
      start := s.cursor, ddir := .output, nOE := Level.high, nWE := Level.high, phase := .wrCheck,
      evt := s.evt ++ [.ddir .output, .oe Level.high, .we Level.high] } := by
  simp [wrSetup, setDdir, setOE, setWE, record, setPhase]

/-- A write in range passes its check (R172). -/
theorem wrCheck_in_range {s : State} (h : s.start.toNat + 512 ≤ 32768) :
    wrCheck s = { s with i := 0#10, phase := .wrRecv } := by
  simp [wrCheck, rangeViolated_of_le h]

/-- A write past the bound faults (R172). -/
theorem wrCheck_past_bound {s : State} (h : s.start.toNat + 512 > 32768) : wrCheck s = raise .rangeWrite s := by
  simp only [wrCheck, rangeViolated_of_gt h, if_true]

/-- A write cycle in mask-ROM mode has no meaning (U2, log entry 16). -/
theorem wrLoop_mask {s : State} (hm : s.mode = .mask) : wrLoop s = .refused .maskModeWrite := by
  simp only [wrLoop, hm]

end Sys2Proof.Machine
end

section
/-! The statements about the page base and the single steps of spec/43_block_write.md. -/

namespace Sys2Proof.Machine

/-- Settles O49: the page base is the quotient by the page size times the page size. -/
theorem pageBaseRoundsDown : Obligations.PageBaseRoundsDown := by
  unfold Obligations.PageBaseRoundsDown
  intro a
  have hpos : 0 < Config.pageSize := Nat.two_pow_pos _
  rw [toNat_pageBase]
  exact ⟨rfl, Nat.mul_div_le _ _, Nat.lt_mul_div_succ _ hpos, Nat.mul_mod_right _ _⟩

/-- Settles O20: the set-up step as one record update. -/
theorem writeSetupConfiguresBus : Obligations.WriteSetupConfiguresBus := by
  unfold Obligations.WriteSetupConfiguresBus
  intro s hp
  rw [exec_wrSetup hp, wrSetup_eq]

/-- Settles O21: the check either starts the receive or raises, which writes no line. -/
theorem writeChecksRange : Obligations.WriteChecksRange := by
  unfold Obligations.WriteChecksRange
  intro s hp
  refine ⟨fun hin => ?passes, fun hpast => ?faults⟩
  case passes => rw [exec_wrCheck hp, wrCheck_in_range hin]
  case faults => rw [exec_wrCheck hp, wrCheck_past_bound hpast, raise_eq]

/-- Settles O22: a receive step holds on an empty queue and otherwise takes the head packet's first byte. -/
theorem writeTakesOneByte : Obligations.WriteTakesOneByte := by
  unfold Obligations.WriteTakesOneByte
  refine fun s hp => ⟨fun hq => ?holds, fun p ps h hq => ?takes⟩
  case holds => exact exec_wrRecv_empty .write s hp hq
  case takes => exact exec_wrRecv_within .write s p ps hp hq h

/-- Settles O23: the mode decides between a write cycle within the buffer and a refusal. -/
theorem writeCycleStrobesOneByte : Obligations.WriteCycleStrobesOneByte := by
  unfold Obligations.WriteCycleStrobesOneByte
  refine ⟨fun s h hp hm => ?cycle, fun s hp hm => ?refused⟩
  case cycle => exact exec_wrLoop_within .write s hp hm h
  case refused => rw [exec_wrLoop hp, wrLoop_mask hm]

/-- Settles O24: the acknowledging step as one record update. -/
theorem writeAcknowledges : Obligations.WriteAcknowledges := by
  unfold Obligations.WriteAcknowledges
  intro s hp
  rw [exec_wrAck hp, wrAck_eq, advancedCursor]

end Sys2Proof.Machine
end

section
/-! SUPPORT. The checksum engine as a linear map of its register (R190, R191): a bit step is linear and loses
nothing, and 32 bit steps take in a word as its four bytes would (R194). -/

namespace Sys2Proof.Machine

theorem crcBit_of_lsb_clear {c : Crc} (h : c.getLsbD 0 = false) : crcBit c = c >>> 1 := by
  rw [crcBit, h, if_neg Bool.false_ne_true]

theorem crcBit_of_lsb_set {c : Crc} (h : c.getLsbD 0 = true) : crcBit c = c >>> 1 ^^^ Config.crcPoly := by
  rw [crcBit, if_pos h]

/-- The bit step is linear over exclusive or: two polynomials cancel. -/
theorem crcBit_xor (a b : Crc) : crcBit (a ^^^ b) = crcBit a ^^^ crcBit b := by
  have hbit : (a ^^^ b).getLsbD 0 = (a.getLsbD 0 ^^ b.getLsbD 0) := BitVec.getLsbD_xor
  have hcancel : Config.crcPoly ^^^ Config.crcPoly = 0#32 := BitVec.xor_self
  cases ha : a.getLsbD 0 <;> cases hb : b.getLsbD 0 <;> rw [ha, hb] at hbit
  case false.false =>
    rw [crcBit_of_lsb_clear hbit, crcBit_of_lsb_clear ha, crcBit_of_lsb_clear hb, BitVec.ushiftRight_xor_distrib]
  case false.true =>
    rw [crcBit_of_lsb_set hbit, crcBit_of_lsb_clear ha, crcBit_of_lsb_set hb, BitVec.ushiftRight_xor_distrib]
    ac_rfl
  case true.false =>
    rw [crcBit_of_lsb_set hbit, crcBit_of_lsb_set ha, crcBit_of_lsb_clear hb, BitVec.ushiftRight_xor_distrib]
    ac_rfl
  case true.true =>
    rw [crcBit_of_lsb_clear hbit, crcBit_of_lsb_set ha, crcBit_of_lsb_set hb, BitVec.ushiftRight_xor_distrib]
    calc a >>> 1 ^^^ b >>> 1
      _ = a >>> 1 ^^^ b >>> 1 ^^^ (Config.crcPoly ^^^ Config.crcPoly) := by rw [hcancel, BitVec.xor_zero]
      _ = a >>> 1 ^^^ Config.crcPoly ^^^ (b >>> 1 ^^^ Config.crcPoly) := by ac_rfl

/-- The bit shifted out comes back as the register's top bit: the polynomial's top bit is set. -/
theorem getLsbD_crcBit_top (c : Crc) : (crcBit c).getLsbD 31 = c.getLsbD 0 := by
  have hpoly : Config.crcPoly.getLsbD 31 = true := by decide
  have hshift : (c >>> 1).getLsbD 31 = false := by simp
  cases h : c.getLsbD 0
  case false => rw [crcBit_of_lsb_clear h, hshift]
  case true => rw [crcBit_of_lsb_set h, BitVec.getLsbD_xor, hpoly, hshift, Bool.false_xor]

/-- A word is its lowest bit and the word without it. -/
theorem eq_of_lsb_of_shift {a b : Crc} (h0 : a.getLsbD 0 = b.getLsbD 0) (hs : a >>> 1 = b >>> 1) : a = b := by
  refine BitVec.eq_of_getLsbD_eq fun i _ => ?_
  cases i with
  | zero => exact h0
  | succ i => simpa [Nat.add_comm] using congrArg (BitVec.getLsbD · i) hs

/-- The bit step loses nothing: the top bit of its result tells whether the polynomial was added. -/
theorem crcBit_injective : Function.Injective crcBit := by
  intro a b h
  have hbit : a.getLsbD 0 = b.getLsbD 0 := by rw [← getLsbD_crcBit_top a, h, getLsbD_crcBit_top]
  refine eq_of_lsb_of_shift hbit ?_
  cases hb : b.getLsbD 0 <;> rw [hb] at hbit
  case false => rwa [crcBit_of_lsb_clear hbit, crcBit_of_lsb_clear hb] at h
  case true => rwa [crcBit_of_lsb_set hbit, crcBit_of_lsb_set hb, BitVec.xor_left_inj] at h

theorem crcBits_xor (n : Nat) (a b : Crc) : crcBits n (a ^^^ b) = crcBits n a ^^^ crcBits n b := by
  induction n generalizing a b with
  | zero => rfl
  | succ n ih => rw [crcBits, crcBit_xor, ih, crcBits, crcBits]

theorem crcBits_injective (n : Nat) : Function.Injective (crcBits n) := by
  induction n with
  | zero => exact fun _ _ h => h
  | succ n ih => exact ih.comp crcBit_injective

theorem crcBits_add (m n : Nat) (c : Crc) : crcBits (m + n) c = crcBits n (crcBits m c) := by
  induction m generalizing c with
  | zero => rw [Nat.zero_add, crcBits]
  | succ m ih => rw [Nat.add_right_comm, crcBits, ih, crcBits]

/-- Bit steps over zero bits only shift. -/
theorem crcBits_of_low_zero (n : Nat) (c : Crc) (h : ∀ i < n, c.getLsbD i = false) : crcBits n c = c >>> n := by
  induction n generalizing c with
  | zero => rfl
  | succ n ih =>
    have hlow : ∀ i < n, (c >>> 1).getLsbD i = false := fun i hi => by
      rw [BitVec.getLsbD_ushiftRight, Nat.add_comm]
      exact h (i + 1) (Nat.succ_lt_succ hi)
    rw [crcBits, crcBit_of_lsb_clear (h 0 n.succ_pos), ih _ hlow, ← BitVec.shiftRight_add, Nat.add_comm]

/-- Two registers stay distinct over the same byte. -/
theorem crcByte_injective_left (b : Byte) : Function.Injective (crcByte · b) := fun _ _ h =>
  (BitVec.xor_left_inj _).1 (crcBits_injective 8 h)

/-- Distinct bytes make the same register distinct. -/
theorem crcByte_injective_right (c : Crc) : Function.Injective (crcByte c) := fun b b' h => by
  have hext : b.setWidth 32 = b'.setWidth 32 := (BitVec.xor_right_inj _).1 (crcBits_injective 8 h)
  simpa using congrArg (BitVec.setWidth 8) hext

/-- Two registers stay distinct over the same bytes. -/
theorem foldl_crcByte_injective (bytes : List Byte) : Function.Injective (bytes.foldl crcByte ·) := by
  induction bytes with
  | nil => exact fun _ _ h => h
  | cons b bytes ih => exact ih.comp (crcByte_injective_left b)

/-- A word's low byte as it enters the register, at bits 7..0 (R191). -/
def lowByte (w : Crc) : Crc := (w.extractLsb' 0 8).setWidth 32

theorem crcByte_low (c w : Crc) : crcByte c (w.extractLsb' 0 8) = crcBits 8 (c ^^^ lowByte w) := rfl

theorem lowByte_ushiftRight (w : Crc) : lowByte w >>> 8 = 0#32 := BitVec.eq_of_getLsbD_eq fun i _ => by simp [lowByte]

/-- A word without its low byte has zeros at bits 7..0. -/
theorem getLsbD_lowByte_xor (w : Crc) {i : Nat} (hi : i < 8) : (lowByte w ^^^ w).getLsbD i = false := by
  have h32 : i < 32 := by omega
  simp [lowByte, hi, h32]

/-- Eight bit steps on a register that holds a whole word take the word's low byte in and leave the word's other
bytes to enter after it. -/
theorem crcBits_eight_xor (c w : Crc) : crcBits 8 (c ^^^ w) = crcByte c (w.extractLsb' 0 8) ^^^ w >>> 8 := by
  calc crcBits 8 (c ^^^ w)
    _ = crcBits 8 ((c ^^^ lowByte w) ^^^ (lowByte w ^^^ w)) := by
      rw [BitVec.xor_assoc, ← BitVec.xor_assoc (lowByte w), BitVec.xor_self, BitVec.zero_xor]
    _ = crcBits 8 (c ^^^ lowByte w) ^^^ (lowByte w ^^^ w) >>> 8 := by
      rw [crcBits_xor, crcBits_of_low_zero 8 _ fun _ => getLsbD_lowByte_xor w]
    _ = crcByte c (w.extractLsb' 0 8) ^^^ w >>> 8 := by
      rw [BitVec.ushiftRight_xor_distrib, lowByte_ushiftRight, BitVec.zero_xor, crcByte_low]

/-- The four bytes of a word, least-significant first, enter the register as the word's 32 bits. -/
theorem foldl_crcByte_trailer (c w : Crc) : (trailer w).foldl crcByte c = crcBits 32 (c ^^^ w) := by
  have hbyte : ∀ k, (w >>> k).extractLsb' 0 8 = w.extractLsb' k 8 := fun _ => rfl
  have hout : w >>> 32 = 0#32 := BitVec.ushiftRight_eq_zero le_rfl
  rw [crcBits_add 8 24, crcBits_eight_xor, crcBits_add 8 16, crcBits_eight_xor, crcBits_add 8 8, crcBits_eight_xor,
    crcBits_eight_xor]
  simp only [← BitVec.shiftRight_add, hbyte, hout, BitVec.xor_zero, trailer, List.foldl]

end Sys2Proof.Machine
end

section
/-! The statements about the checksum engine (spec/44_checksum.md). -/

namespace Sys2Proof.Machine

/-- Settles O52: the trailer is the complement of the register it meets, so the register becomes what 32 bit steps make
of all ones, whatever the block holds. -/
theorem trailerGivesConstantResidue : Obligations.TrailerGivesConstantResidue := by
  unfold Obligations.TrailerGivesConstantResidue
  intro buf
  have hones : crcRun buf buf.length ^^^ crc32 buf buf.length = BitVec.allOnes 32 := by
    rw [crc32, ← BitVec.not_xor_right, BitVec.xor_self, BitVec.not_zero]
  have hconst : ~~~ crcBits 32 (BitVec.allOnes 32) = 0x2144DF1C#32 := by decide +kernel
  have hrun := crcRun_append buf (trailer (crc32 buf buf.length))
  rw [foldl_crcByte_trailer, hones] at hrun
  rw [← hconst, ← hrun]
  rfl

/-- Settles O53: the two bytes make the register distinct, and the bytes after them keep it so. -/
theorem oneChangedByteChangesChecksum : Obligations.OneChangedByteChangesChecksum := by
  unfold Obligations.OneChangedByteChangesChecksum
  intro front back b b' hne heq
  have hrun : ∀ x : Byte, crcRun (front ++ x :: back) (front.length + 1 + back.length) =
      back.foldl crcByte (crcByte (crcRun front front.length) x) := fun x => by
    rw [Nat.add_assoc, Nat.add_comm 1]
    exact crcRun_append front (x :: back)
  have hregs := BitVec.not_inj.1 heq
  rw [hrun, hrun] at hregs
  exact hne (crcByte_injective_right _ (foldl_crcByte_injective back hregs))

/-- Settles O50: closed values of the model. -/
theorem checksumStepValues : Obligations.ChecksumStepValues := by
  unfold Obligations.ChecksumStepValues
  decide

/-- Settles O51: the bytes of a word put together are the word, and the send step appends the block and then the
trailer. -/
theorem trailerFollowsTheData : Obligations.TrailerFollowsTheData := by
  unfold Obligations.TrailerFollowsTheData
  refine ⟨fun c => ⟨rfl, ?together⟩, fun s t hp h => ?sent, by decide⟩
  case together =>
    have hjoin : ∀ {i j m n : Nat}, j = i + m → c.extractLsb' j n ++ c.extractLsb' i m = c.extractLsb' i (n + m) :=
      BitVec.extractLsb'_append_extractLsb'_eq_extractLsb'
    rw [hjoin (j := 24) (i := 16) rfl, hjoin (j := 16) (i := 8) rfl, hjoin (j := 8) (i := 0) rfl]
    exact BitVec.extractLsb'_eq_self
  case sent =>
    rw [exec_rdSend hp, rdSend_eq] at h
    cases h
    exact (List.append_assoc _ _ _).symm

end Sys2Proof.Machine
end

section
/-! SUPPORT. Which turns answer a next state: whose turn it can be, a faulted block, an engine that stops, a command that
answers (spec/60_exceptions.md R210, R245). -/

namespace Sys2Proof.Machine

/-- The next turn is the engine's, one of the host's two, or a power cycle (R8). -/
theorem turn_cases (s : State) :
    s.engineNext = true ∨ (∃ p ts, s.turns = .hostSend p :: ts) ∨ (∃ ts, s.turns = .hostTake :: ts) ∨
      ∃ waiting ts, s.turns = .powerCycle waiting :: ts := by
  rcases ht : s.turns with _ | ⟨_ | p | _ | waiting, ts⟩
  · exact .inl (by simp only [State.engineNext, ht])
  · exact .inl (by simp only [State.engineNext, ht])
  · exact .inr (.inl ⟨p, ts, rfl⟩)
  · exact .inr (.inr (.inl ⟨ts, rfl⟩))
  · exact .inr (.inr (.inr ⟨waiting, ts, rfl⟩))

/-- Every turn but the engine's answers a next state, whatever the block holds. -/
theorem engineNext_or_step_answers (s : State) : s.engineNext = true ∨ ∃ t, step s = .next t := by
  obtain he | ⟨p, ts, h⟩ | ⟨ts, h⟩ | ⟨waiting, ts, h⟩ := turn_cases s
  · exact .inl he
  · exact .inr ⟨_, step_of_hostSend h⟩
  · exact .inr ⟨_, step_of_hostTake h⟩
  · exact .inr ⟨_, step_of_powerCycle s waiting ts h⟩

/-- No command has a meaning in `FAULTED` (R210, log entry 2). -/
theorem exec_faulted {k : Instr} {s : State} (hp : s.phase = .faulted) :
    exec k s = .fault (.halted s.faultReason) := by
  simp only [exec_eq_commandStep, commandStep, hp]

/-- The engine of a faulted block stops with the reason recorded (R210, log entry 2). -/
theorem fetch_faulted {s : State} (hp : s.phase = .faulted) : fetch s = .stop (.halted s.faultReason) := by
  simp only [fetch, hp]

/-- In `FAULTED` the engine's turn is the fault `halted` (R210, log entry 2). -/
theorem step_of_faulted {s : State} (he : s.engineNext = true) (hp : s.phase = .faulted) :
    step s = .fault (.halted s.faultReason) := by
  have hfetch : fetch s.afterTurn = .stop (.halted s.faultReason) := fetch_faulted (s := s.afterTurn) hp
  rw [step_of_engineNext s he, hfetch]

theorem recognise_ne_stop (s : State) (f : Fault) : recognise s ≠ .stop f := by
  unfold recognise
  split
  · cases decode s.fb <;> nofun
  · nofun

/-- A poll holds, faults into a next state, or recognises; it never stops the engine (R100). -/
theorem poll_ne_stop (s : State) (f : Fault) : poll s ≠ .stop f := by
  unfold poll
  split
  · nofun
  · dsimp only
    split
    · nofun
    · exact recognise_ne_stop _ f

/-- The engine stops in `FAULTED`, or on an empty slot where a command should be in flight. -/
theorem fetch_stop {s : State} {f : Fault} (h : fetch s = .stop f) :
    s.phase = .faulted ∨ (s.phase ≠ .idle ∧ s.cmd = none) := by
  have hi : s.phase ≠ .idle := fun hp => by
    simp only [fetch, hp] at h
    exact poll_ne_stop s f h
  by_cases hf : s.phase = .faulted
  · exact .inl hf
  · cases hc : s.cmd with
    | none => exact .inr ⟨hi, rfl⟩
    | some k => cases h.symm.trans (fetch_inFlight s k hc hi hf)

/-- The engine of a block whose slot agrees with its phase stops only in `FAULTED` (R103). -/
theorem State.slotAgrees.faulted_of_fetch_stop {s : State} (h : s.slotAgrees) {f : Fault} (hs : fetch s = .stop f) :
    s.phase = .faulted := by
  obtain hf | ⟨hi, hc⟩ := fetch_stop hs
  · exact hf
  · by_contra hf
    obtain ⟨k, hk, -⟩ := h.2 hi hf
    cases hc.symm.trans hk

/-- A command answers in every phase but `FAULTED`, provided that its write cycles are in EEPROM mode (U2). -/
theorem exec_answers (k : Instr) {s : State} (hf : s.phase ≠ .faulted) (hm : s.phase = .wrLoop → s.mode = .eeprom) :
    ∃ t, exec k s = .next t := by
  cases hp : s.phase
  case faulted => exact absurd hp hf
  case wrLoop =>
    by_cases hi : s.i.toNat < 512
    · exact ⟨_, exec_wrLoop_within k s hp (hm hp) hi⟩
    · exact ⟨_, (exec_wrLoop hp).trans (wrLoop_beyond (hm hp) (Nat.not_lt.mp hi))⟩
  case idle => exact ⟨_, exec_idle hp⟩
  case dispatch => exact ⟨_, exec_dispatch hp⟩
  case ping => exact ⟨_, exec_ping hp⟩
  case session => exact ⟨_, exec_session hp⟩
  case rdCheck => exact ⟨_, exec_rdCheck hp⟩
  case rdSetup => exact ⟨_, exec_rdSetup hp⟩
  case rdLoop => exact ⟨_, exec_rdLoop hp⟩
  case rdPost => exact ⟨_, exec_rdPost hp⟩
  case rdSend => exact ⟨_, exec_rdSend hp⟩
  case wrSetup => exact ⟨_, exec_wrSetup hp⟩
  case wrCheck => exact ⟨_, exec_wrCheck hp⟩
  case wrRecv => exact ⟨_, exec_wrRecv hp⟩
  case wrAck => exact ⟨_, exec_wrAck hp⟩
  case complete => exact ⟨_, exec_complete hp⟩

/-- The command an engine turn runs from the invariant answers: it was just recognised in `IDLE`, or it is in flight with
the mode its phase needs. -/
theorem State.Inv.fetched_exec_answers {s u : State} {k : Instr} (h : s.Inv) (hr : fetch s = .run k u) :
    ∃ t, exec k u = .next t := by
  obtain ⟨hp, -, p, ps, -, -, -, rfl⟩ | ⟨-, hf, -, rfl⟩ := fetch_run s u k hr
  · exact ⟨_, exec_idle hp⟩
  · exact exec_answers k hf fun hp => h.writeMode (.inr (by rw [hp]; rfl))

/-- From the invariant the engine's turn answers a next state, unless the block has faulted. -/
theorem State.Inv.engine_answers {s : State} (h : s.Inv) (he : s.engineNext = true) (hf : s.phase ≠ .faulted) :
    ∃ t, step s = .next t := by
  have h' : s.afterTurn.Inv := h.outside s.rxq s.txq s.evt s.turns.tail
  cases hfetch : fetch s.afterTurn
  case run k u =>
    rw [step_of_fetch_run he hfetch]
    exact h'.fetched_exec_answers hfetch
  case stay u => exact ⟨u, step_of_fetch_stay he hfetch⟩
  case stop f => exact absurd (h'.slot.faulted_of_fetch_stop hfetch) hf

end Sys2Proof.Machine
end

section
/-! The statements of spec/60_exceptions.md. -/

namespace Sys2Proof.Machine

/-- Settles O30: the engine has no next state in `FAULTED`, a host turn is its queue operation, and a power cycle boots
the block. -/
theorem onlyPowerCycleLeavesFaulted : Obligations.OnlyPowerCycleLeavesFaulted := by
  unfold Obligations.OnlyPowerCycleLeavesFaulted
  refine ⟨fun s t hp hstep => ?fromFaulted, fun s waiting ts h => ?booted⟩
  case fromFaulted =>
    obtain he | ⟨p, ts, h⟩ | ⟨ts, h⟩ | ⟨waiting, ts, h⟩ := turn_cases s
    · cases (step_of_faulted he hp).symm.trans hstep
    · obtain rfl := outcome_next_inj ((step_of_hostSend h).symm.trans hstep)
      exact .inr ⟨s.rxq ++ [p], s.txq, by rw [h, List.tail_cons], List.prefix_append _ _, List.suffix_refl _⟩
    · obtain rfl := outcome_next_inj ((step_of_hostTake h).symm.trans hstep)
      exact .inr ⟨s.rxq, s.txq.drop 1, by rw [h, List.tail_cons], List.prefix_refl _, List.drop_suffix _ _⟩
    · obtain rfl := outcome_next_inj ((step_of_powerCycle s waiting ts h).symm.trans hstep)
      exact .inl ⟨waiting, ts, h, rfl⟩
  case booted =>
    exact ⟨_, step_of_powerCycle s waiting ts h, rfl, rfl, rfl, rfl, rfl, rfl, rfl, rfl, rfl, rfl, rfl, rfl⟩

/-- Settles O35: the environment's turns always answer; the engine's answer from the invariant, and from `FAULTED` they
are the fault `halted`. -/
theorem onlyFaultedStops : Obligations.OnlyFaultedStops := by
  unfold Obligations.OnlyFaultedStops
  intro s h
  obtain he | hnext := engineNext_or_step_answers s
  · exact ⟨h.engine_answers he, fun hp => .inr (step_of_faulted he hp)⟩
  · exact ⟨fun _ => hnext, fun _ => .inl hnext⟩

/-- Settles O28: fault entry as one record update. -/
theorem faultEntryKeepsTheRest : Obligations.FaultEntryKeepsTheRest := by
  unfold Obligations.FaultEntryKeepsTheRest
  exact raise_eq

/-- Settles O29: neither the engine nor a command goes on in `FAULTED`, and a successful end is in `IDLE`. -/
theorem faultedHasNoStep : Obligations.FaultedHasNoStep := by
  unfold Obligations.FaultedHasNoStep
  intro s hp
  have hquiet : s.quiescent = false := by simp [State.quiescent, hp]
  exact ⟨fun he => step_of_faulted he hp, fun _ => exec_faulted hp, hquiet⟩

end Sys2Proof.Machine
end

section
/-! SUPPORT. The bus levels along the events of one step (spec/70_reset_and_hazards.md R233). -/

namespace Sys2Proof.Machine

/-- With both enables inactive the direction does not matter (R233). -/
theorem BusLevels.safe_of_inactive {b : BusLevels} (hOE : b.nOE = Level.high) (hWE : b.nWE = Level.high) :
    b.safe = true := by
  simp [BusLevels.safe, hOE, hWE]

/-- An event that puts no level on the direction or an enable. -/
def Event.keepsLevels (e : Event) : Prop := ∀ b : BusLevels, b.after e = b

@[simp] theorem Event.keepsLevels_delay (k : DelayKind) : (Event.delay k).keepsLevels := fun _ => rfl
@[simp] theorem Event.keepsLevels_tx (b : Byte) : (Event.tx b).keepsLevels := fun _ => rfl
@[simp] theorem Event.keepsLevels_rx (bytes : List Byte) : (Event.rx bytes).keepsLevels := fun _ => rfl
@[simp] theorem Event.keepsLevels_ind (k : IndKind) : (Event.ind k).keepsLevels := fun _ => rfl
@[simp] theorem Event.keepsLevels_fault (r : FaultReason) : (Event.fault r).keepsLevels := fun _ => rfl

/-- Along events that put no level there, only the levels before them count. -/
theorem BusLevels.along_of_keepsLevels (b : BusLevels) {es : List Event} (h : ∀ e ∈ es, e.keepsLevels) :
    b.safeAlong es = b.safe ∧ b.replay es = b := by
  induction es with
  | nil => exact ⟨rfl, rfl⟩
  | cons e es ih =>
    obtain ⟨he, hes⟩ := List.forall_mem_cons.mp h
    obtain ⟨hsafe, hreplay⟩ := ih hes
    refine ⟨?_, ?_⟩
    · rw [BusLevels.safeAlong, he b, hsafe, Bool.and_self]
    · rw [BusLevels.replay, List.foldl_cons, he b]
      exact hreplay

/-- The events of a step keep the bus safe throughout and account for the levels it leaves (R233). -/
def BusKept (s t : State) : Prop :=
  ∃ es, t.evt = s.evt ++ es ∧ s.busLevels.safeAlong es = true ∧ s.busLevels.replay es = t.busLevels

/-- A step that touches neither the direction nor an enable. -/
theorem busKept_of_keepsLevels {s t : State} (hs : s.busLevels.safe = true) (hl : t.busLevels = s.busLevels)
    (es : List Event) (hevt : t.evt = s.evt ++ es) (h : ∀ e ∈ es, e.keepsLevels) : BusKept s t := by
  obtain ⟨hsafe, hreplay⟩ := s.busLevels.along_of_keepsLevels h
  exact ⟨es, hevt, hsafe.trans hs, hreplay.trans hl.symm⟩

/-- A step without events that keeps the levels. -/
theorem busKept_of_no_events {s t : State} (hs : s.busLevels.safe = true) (hl : t.busLevels = s.busLevels)
    (hevt : t.evt = s.evt) : BusKept s t :=
  busKept_of_keepsLevels hs hl [] (by rw [hevt, List.append_nil]) (by simp)

/-- Fault entry holds the lines as they are (R211, R213). -/
theorem busKept_faultedAfter {s u : State} (hs : s.busLevels.safe = true) (r : FaultReason) (es : List Event)
    (hl : u.busLevels = s.busLevels) (hevt : u.evt = s.evt) (h : ∀ e ∈ es, e.keepsLevels) :
    BusKept s (faultedAfter r es u) := by
  refine busKept_of_keepsLevels hs hl (es ++ [.ind .fault, .fault r]) (by simp [faultedAfter, hevt]) ?_
  exact List.forall_mem_append.mpr ⟨h, by simp⟩

/-- The set-up of a read turns the data lines to input while both enables are inactive (R152). -/
theorem busKept_rdSetup {s : State} (hOE : s.nOE = Level.high) (hWE : s.nWE = Level.high) : BusKept s (rdSetup s) := by
  refine ⟨[.ddir .input, .oe Level.high, .delay .rdPre], by rw [rdSetup_eq], ?_, by rw [rdSetup_eq]; rfl⟩
  simp [BusLevels.safeAlong, BusLevels.after, BusLevels.safe, State.busLevels, hOE, hWE]

/-- A read cycle activates output-enable with the data lines as inputs and write-enable inactive, and inactivates it
again (R153). -/
theorem busKept_afterReadCycle {s : State} (hd : s.ddir = .input) (hWE : s.nWE = Level.high) (hOE : s.nOE = Level.high)
    (b : Byte) (p : Phase) (h : s.i.toNat < 512) : BusKept s (afterReadCycle b p s h) := by
  refine ⟨_, rfl, ?_, rfl⟩
  simp [BusLevels.safeAlong, BusLevels.after, BusLevels.safe, State.busLevels, hd, hOE, hWE]

/-- The set-up of a write turns the data lines to output while both enables are inactive (R171). -/
theorem busKept_wrSetup {s : State} (hOE : s.nOE = Level.high) (hWE : s.nWE = Level.high) : BusKept s (wrSetup s) := by
  refine ⟨[.ddir .output, .oe Level.high, .we Level.high], by rw [wrSetup_eq], ?_, by rw [wrSetup_eq]; rfl⟩
  simp [BusLevels.safeAlong, BusLevels.after, BusLevels.safe, State.busLevels, hOE, hWE]

/-- A write cycle strobes write-enable with the data lines as outputs and output-enable inactive (R174). -/
theorem busKept_afterWriteCycle {s : State} (hd : s.ddir = .output) (hOE : s.nOE = Level.high)
    (hWE : s.nWE = Level.high) (p : Phase) (h : s.i.toNat < 512) : BusKept s (afterWriteCycle p s h) := by
  refine ⟨_, rfl, ?_, rfl⟩
  simp [BusLevels.safeAlong, BusLevels.after, BusLevels.safe, State.busLevels, hd, hOE, hWE]

/-- A step of the command in flight keeps the bus safe: only the set-ups and the byte cycles of a block touch the
levels. -/
theorem exec_busKept {k : Instr} {s t : State} (hOE : s.nOE = Level.high) (hWE : s.nWE = Level.high)
    (hn : s.phaseNeeds) (h : exec k s = .next t) : BusKept s t := by
  have hsafe : s.busLevels.safe = true := BusLevels.safe_of_inactive hOE hWE
  have heff := exec_effect k s t h
  unfold State.phaseNeeds at hn
  unfold StepEffect at heff
  cases hp : s.phase <;> simp only [hp] at hn heff
  case rdSetup =>
    obtain rfl := outcome_next_inj ((exec_rdSetup hp).symm.trans h)
    exact busKept_rdSetup hOE hWE
  case rdLoop =>
    obtain ⟨-, hd, hlt⟩ := hn
    obtain ⟨b, hb⟩ := exec_rdLoop_within k s hp hlt
    obtain rfl := outcome_next_inj (hb.symm.trans h)
    exact busKept_afterReadCycle hd hWE hOE b _ hlt
  case wrSetup =>
    obtain rfl := outcome_next_inj ((exec_wrSetup hp).symm.trans h)
    exact busKept_wrSetup hOE hWE
  case wrLoop =>
    obtain ⟨hwr, -, hlt⟩ := hn
    obtain rfl := outcome_next_inj ((exec_wrLoop_within k s hp hwr.mode hlt).symm.trans h)
    exact busKept_afterWriteCycle hwr.ddir hOE hWE _ hlt
  case idle | complete => subst heff; exact busKept_of_no_events hsafe rfl rfl
  case dispatch => subst heff; cases k <;> exact busKept_of_no_events hsafe rfl rfl
  case rdCheck =>
    obtain ⟨-, -, rfl⟩ | ⟨r, rfl⟩ := heff
    · exact busKept_of_no_events hsafe rfl rfl
    · exact busKept_faultedAfter hsafe r [] rfl rfl (by simp)
  case wrCheck =>
    obtain ⟨-, rfl⟩ | rfl := heff
    · exact busKept_of_no_events hsafe rfl rfl
    · exact busKept_faultedAfter hsafe _ [] rfl rfl (by simp)
  case wrRecv =>
    obtain ⟨-, rfl⟩ | ⟨p, ps, -, ⟨xb, i, ph, -, -, rfl⟩ | rfl⟩ := heff
    · exact busKept_of_no_events hsafe rfl rfl
    · exact busKept_of_keepsLevels hsafe rfl [.rx [p.first]] rfl (by simp)
    · exact busKept_faultedAfter hsafe _ [.rx [p.first]] rfl rfl (by simp)
  case ping | session | rdPost | rdSend | wrAck =>
    subst heff
    exact busKept_of_keepsLevels hsafe rfl _ rfl (by simp [or_imp, forall_and])

/-- A turn in which no instruction runs takes a packet at most. -/
theorem fetch_stay_busKept {s t : State} (hs : s.busLevels.safe = true) (h : fetch s = .stay t) : BusKept s t := by
  obtain ⟨-, ⟨-, rfl⟩ | ⟨p, ps, -, ⟨-, rfl⟩ | ⟨-, -, rfl⟩ | ⟨-, -, rfl⟩⟩⟩ := fetch_stay s t h
  · exact busKept_of_no_events hs rfl rfl
  · exact busKept_faultedAfter hs _ _ rfl rfl (by simp)
  · exact busKept_of_keepsLevels hs rfl [.rx p.bytes, .ind .fault, .fault .badCommand]
      (by simp [faultedAfter, afterPoll]) (by simp)
  · exact busKept_of_keepsLevels hs rfl _ rfl (by simp)

/-- A turn that runs an instruction takes the packet of its frame, or steps the command in flight. -/
theorem fetch_run_busKept {s u t : State} {k : Instr} (h : s.Inv) (hr : fetch s = .run k u) (hx : exec k u = .next t) :
    BusKept s t := by
  obtain ⟨hOE, hWE⟩ := h.enables
  obtain ⟨hp, -, p, ps, -, -, -, rfl⟩ | ⟨hi, hf, hk, rfl⟩ := fetch_run s u k hr
  · obtain rfl := outcome_next_inj ((exec_idle (s := afterPoll p ps s) hp).symm.trans hx)
    exact busKept_of_keepsLevels (BusLevels.safe_of_inactive hOE hWE) rfl [.rx p.bytes] rfl
      (by simp)
  · obtain ⟨-, -, hn⟩ := h.inFlight hi hf hk
    exact exec_busKept hOE hWE hn hx

end Sys2Proof.Machine
end

section
/-! The hazards of single steps (spec/70_reset_and_hazards.md R233, R234, R235, R244). -/

namespace Sys2Proof.Machine

/-- Settles O37: the invariant has both enables inactive before a step, and the direction right for a byte cycle. -/
theorem busIsSafeAlongEveryStep : Obligations.BusIsSafeAlongEveryStep := by
  unfold Obligations.BusIsSafeAlongEveryStep
  intro s t h he hstep
  obtain ⟨hOE, hWE⟩ := h.enables
  have h' : s.afterTurn.Inv := h.outside s.rxq s.txq s.evt s.turns.tail
  -- `afterTurn` changes the schedule alone, of which `BusKept` does not speak.
  change BusKept s.afterTurn t
  obtain hs | ⟨k, u, hr, hx⟩ := step_engine s t he hstep
  · exact fetch_stay_busKept (BusLevels.safe_of_inactive hOE hWE) hs
  · exact fetch_run_busKept h' hr hx

/-- A wait alone lasts as long as its delay (R244). -/
theorem minElapsed_delay (k : DelayKind) : minElapsed [.delay k] = Config.delayAtLeast k := by
  simp [minElapsed]

/-- Settles O27: in both byte cycles the wait in question is the one event of its place. -/
theorem settleAndWriteCycleWaits : Obligations.SettleAndWriteCycleWaits := by
  unfold Obligations.SettleAndWriteCycleWaits
  refine ⟨fun s t hp hx => ?read, fun s t hp hx hsound => ?write⟩
  case read =>
    have heff := exec_effect .readm s t hx
    simp only [StepEffect, hp] at heff
    have hnone : ∀ l', Event.lines l' ∉ [Event.delay .rdSettle] := by simp
    obtain ⟨b, hcycle⟩ := heff
    refine ⟨driveLines (cycleAddr s) .mask s.lines, b, [.delay .rdSettle], ?_⟩
    obtain ⟨xb, p, -, -, rfl⟩ | rfl := hcycle
    · exact ⟨[], by simp, (minElapsed_delay _).ge, hnone⟩
    · exact ⟨[.ind .fault, .fault .xbufOverflow], by simp [faultedAfter], (minElapsed_delay _).ge, hnone⟩
  case write =>
    have heff := exec_effect .write s t hx
    simp only [StepEffect, hp] at heff
    obtain ⟨-, ⟨b, p, -, rfl⟩ | rfl⟩ := heff
    · exact ⟨driveLines (cycleAddr s) .eeprom s.lines, b, [.delay .wrCycle], by simp, (minElapsed_delay _).ge,
        by simp⟩
    · exact absurd rfl hsound

end Sys2Proof.Machine
end

section
/-! SUPPORT. The blocks of a session (spec/70_reset_and_hazards.md R241, R242): each command of a dutiful host, from one
idle block to the next. -/

namespace Sys2Proof.Machine

/-- A block between two commands, with the packets `ps` waiting and only engine turns to come. -/
structure State.Ready (s : State) (ps : List Packet) : Prop where
  turns : s.turns = []
  phase : s.phase = .idle
  cmd   : s.cmd = none
  fb    : s.fb = []
  rxq   : s.rxq = ps

/-- The state in which the frame of `k` has been taken from before `ps` and its command accepted (R100, R101). -/
def accepted (k : Instr) (ps : List Packet) (s : State) : State := acceptCommand k (afterPoll (framePacket k) ps s)

/-- A ready block accepts the frame that waits. -/
theorem State.Ready.step_accepts {s : State} {k : Instr} {ps : List Packet} (h : s.Ready (framePacket k :: ps)) :
    step s = .next (accepted k ps s) := by
  have hfit : s.fbLen + (framePacket k).bytes.length ≤ Config.frameCap := by
    simp [State.fbLen, h.fb, framePacket, Packet.bytes, Config.frameCap]
  exact step_of_recognised h.turns h.phase h.cmd h.rxq hfit (by rw [h.fb]; exact decode_frame_append k [])

/-- The block `t` after a command of `s` has completed, with `ps` still waiting: the cursor is `c`, `n` reply bytes were
sent, and no fault was recorded. -/
structure Completed (s t : State) (ps : List Packet) (c : Addr) (n : Nat) : Prop where
  ready       : t.Ready ps
  cursor      : t.cursor = c
  faultReason : t.faultReason = s.faultReason
  sent        : t.txq.length = s.txq.length + n

/-- A command accepted by a ready block completes for that block. -/
theorem State.Ready.runs_completed {s : State} {k : Instr} {ps qs : List Packet} {m n : Nat} {c : Addr}
    (h : s.Ready (framePacket k :: ps))
    (hrun : ∃ t, Runs m (accepted k ps s) t ∧ Completed (accepted k ps s) t qs c n) :
    ∃ t, Runs (m + 1) s t ∧ Completed s t qs c n := by
  obtain ⟨t, hrun, hdone⟩ := hrun
  exact ⟨t, .cons h.step_accepts hrun, { hdone with }⟩

/-- `START` completes with the cursor at 0 (R106). -/
theorem runs_start_completed {s : State} (ht : s.turns = []) (hc : s.cmd = some .start) (hp : s.phase = .dispatch) :
    ∃ t, Runs 3 s t ∧ Completed s t s.rxq 0x0000#16 0 :=
  ⟨_, runs_start ht hc hp, ⟨ht, rfl, rfl, rfl, rfl⟩, rfl, rfl, rfl⟩

/-- A masked read in range completes with the block, its trailer and the advance (R155). -/
theorem runs_readm_completed {s : State} (ht : s.turns = []) (hc : s.cmd = some .readm) (hp : s.phase = .dispatch)
    (hr : s.cursor.toNat + 512 ≤ 32768) :
    ∃ t, Runs 518 s t ∧ Completed s t s.rxq (advancedCursor s.cursor) 516 := by
  obtain ⟨lines, nOE, xb, i, evt, hloop⟩ := runs_rdLoop 511 (readyToRead s) ht hc rfl rfl
  have hend := runs_readm_end (s := { readyToRead s with
    lines := lines, nOE := nOE, xb := xb, i := i, phase := .rdPost, evt := evt }) ht hc rfl
  refine ⟨_, (runs_readm_setup ht hc hp hr).trans (hloop.trans hend), ?_⟩
  rw [rdSend_eq]
  exact ⟨⟨ht, rfl, rfl, rfl, rfl⟩, rfl, rfl, by simp [rdPost, readyToRead, trailer]⟩

/-- The receive loop over the rest of one packet that fills the buffer: `runs_wrRecv` with the packets after it left
whole (R52, R173). -/
theorem runs_wrRecv_packet (b : Byte) (bs : List Byte) (ps : List Packet) (s : State) (ht : s.turns = [])
    (hc : s.cmd = some .write) (hp : s.phase = .wrRecv) (hi : s.i.toNat + bs.length = 511)
    (hq : s.rxq = ⟨b, bs⟩ :: ps) :
    ∃ xb evt, Runs (bs.length + 1) s { s with rxq := ps, xb := xb, i := 0#10, phase := .wrLoop, evt := evt } := by
  have hlt : s.i.toNat < 512 := by omega
  have hs : s.phase.servedBy .write = true := by rw [hp]; rfl
  induction bs generalizing b s with
  | nil =>
    have hx := exec_wrRecv_within .write s _ ps hp hq hlt
    have hl : s.i.toNat = 511 := hi
    rw [if_pos hl, if_pos hl] at hx
    exact ⟨_, _, .cons (step_of_inFlight ht hc hs hx) (.refl _)⟩
  | cons c cs ih =>
    have hx := exec_wrRecv_within .write s _ ps hp hq hlt
    rw [List.length_cons] at hi
    have hl : s.i.toNat ≠ 511 := by omega
    rw [if_neg hl, if_neg hl] at hx
    have hi' : (s.i + 1#10).toNat + cs.length = 511 := by rw [toNat_succ_of_lt hlt]; omega
    obtain ⟨xb, evt, hrest⟩ := ih c (afterReceive b (⟨c, cs⟩ :: ps) (s.i + 1#10) .wrRecv s hlt) ht hc rfl hi' rfl
      (succ_lt_512 hlt hl) rfl
    exact ⟨xb, evt, .cons (step_of_inFlight ht hc hs hx) hrest⟩

/-- A write in range whose data wait in a packet of their own completes with the acknowledgment and the advance
(R175). -/
theorem runs_write_completed {s : State} {b : Byte} {bs : List Byte} {ps : List Packet} (ht : s.turns = [])
    (hc : s.cmd = some .write) (hp : s.phase = .dispatch) (hr : s.cursor.toNat + 512 ≤ 32768)
    (hq : s.rxq = ⟨b, bs⟩ :: ps) (hlen : bs.length = 511) :
    ∃ t, Runs 1029 s t ∧ Completed s t ps (advancedCursor s.cursor) 1 := by
  obtain ⟨xb, evt, hrecv⟩ := runs_wrRecv_packet b bs ps (readyToReceive s) ht hc rfl ((Nat.zero_add _).trans hlen) hq
  rw [hlen] at hrecv
  obtain ⟨lines, dout, nWE, i, evt', hloop⟩ := runs_wrLoop 511 { readyToReceive s with
    rxq := ps, xb := xb, i := 0#10, phase := .wrLoop, evt := evt } ht hc rfl rfl rfl
  have hend := runs_write_end (s := { readyToReceive s with
    rxq := ps, xb := xb, lines := lines, dout := dout, nWE := nWE, i := i, phase := .wrAck, evt := evt' }) ht hc rfl
  refine ⟨_, (runs_write_setup ht hc hp hr).trans (hrecv.trans (hloop.trans hend)), ?_⟩
  rw [wrAck_eq]
  exact ⟨⟨ht, rfl, rfl, rfl, rfl⟩, rfl, rfl, List.length_append⟩

/-- A block operation in range, in whichever direction. -/
theorem runs_block {s : State} (op : BlockOp) {ps : List Packet} (h : s.Ready (op.packets ++ ps))
    (hr : s.cursor.toNat + 512 ≤ 32768) :
    ∃ t, Runs (commandSteps op.command) s t ∧
      Completed s t ps (advancedCursor s.cursor) (replyLength op.command) := by
  cases op with
  | read => exact h.runs_completed (runs_readm_completed (s := accepted .readm ps s) h.turns rfl rfl hr)
  | write data =>
    have hlen : data.toList.tail.length = 511 := by simp
    exact h.runs_completed (runs_write_completed (s := accepted .write _ s) h.turns rfl rfl hr rfl hlen)

/-- The cursor after `n` blocks of a session, as a number. -/
theorem toNat_sessionCursor {n : Nat} (h : n ≤ 64) : (BitVec.ofNat 16 (512 * n)).toNat = 512 * n := by
  rw [BitVec.toNat_ofNat]
  omega

/-- The cursor advances from block to block (R155, R175). -/
theorem advancedCursor_sessionCursor (n : Nat) :
    advancedCursor (BitVec.ofNat 16 (512 * n)) = BitVec.ofNat 16 (512 * (n + 1)) := by
  rw [advancedCursor, Nat.mul_succ, BitVec.ofNat_add]

/-- The rest of a session after `n` blocks: as long as it stays within 64 blocks, each of its blocks is in range (R242). -/
theorem runs_blocks (ops : List BlockOp) {ps : List Packet} (n : Nat) {s : State}
    (h : s.Ready (ops.flatMap BlockOp.packets ++ ps)) (hcur : s.cursor = BitVec.ofNat 16 (512 * n))
    (hn : n + ops.length ≤ 64) :
    ∃ t, Runs (ops.map fun op => commandSteps op.command).sum s t ∧
      Completed s t ps (BitVec.ofNat 16 (512 * (n + ops.length))) (ops.map fun op => replyLength op.command).sum := by
  induction ops generalizing n s with
  | nil => exact ⟨s, .refl s, h, hcur, rfl, rfl⟩
  | cons op ops ih =>
    rw [List.length_cons] at hn
    rw [List.flatMap_cons, List.append_assoc] at h
    have hr : s.cursor.toNat + 512 ≤ 32768 := by
      rw [hcur, toNat_sessionCursor (by omega)]
      omega
    obtain ⟨u, hblock, hu⟩ := runs_block op h hr
    have hucur : u.cursor = BitVec.ofNat 16 (512 * (n + 1)) := by
      rw [hu.cursor, hcur, advancedCursor_sessionCursor]
    obtain ⟨t, hrest, hready, hcursor, hreason, hsent⟩ := ih (n + 1) hu.ready hucur (by omega)
    refine ⟨t, hblock.trans hrest, hready, ?_, hreason.trans hu.faultReason, ?_⟩
    · rw [hcursor, List.length_cons, Nat.add_right_comm, Nat.add_assoc]
    · rw [hsent, hu.sent, List.map_cons, List.sum_cons, Nat.add_assoc]

/-- The block `t` after a command of `s` has faulted with `r` and sent nothing (R211). -/
structure FaultedOn (r : FaultReason) (s t : State) : Prop where
  phase       : t.phase = .faulted
  faultReason : t.faultReason = some r
  rxq         : t.rxq = s.rxq
  txq         : t.txq = s.txq

/-- A masked read past the bound faults at its check (R151). -/
theorem runs_readm_past_bound {s : State} (ht : s.turns = []) (hc : s.cmd = some .readm) (hp : s.phase = .dispatch)
    (hr : s.cursor.toNat + 512 > 32768) : ∃ t, Runs 2 s t ∧ FaultedOn .rangeRead s t := by
  have h1 : step s = .next (routeOf .readm s) := step_of_dispatch ht hc hp
  have h2 : step (routeOf .readm s) = .next (rdCheck (routeOf .readm s)) :=
    step_of_inFlight (k := .readm) ht hc rfl (exec_rdCheck rfl)
  rw [rdCheck_past_bound (s := routeOf .readm s) hr] at h2
  exact ⟨_, .cons h1 (.cons h2 (.refl _)), rfl, rfl, rfl, rfl⟩

/-- A write past the bound faults at its check, before it takes any data (R172). -/
theorem runs_write_past_bound {s : State} (ht : s.turns = []) (hc : s.cmd = some .write) (hp : s.phase = .dispatch)
    (hr : s.cursor.toNat + 512 > 32768) : ∃ t, Runs 3 s t ∧ FaultedOn .rangeWrite s t := by
  have h1 : step s = .next (routeOf .write s) := step_of_dispatch ht hc hp
  have h2 : step (routeOf .write s) = .next (wrSetup (routeOf .write s)) :=
    step_of_inFlight (k := .write) ht hc rfl (exec_wrSetup rfl)
  have h3 : step (wrSetup (routeOf .write s)) = .next (wrCheck (wrSetup (routeOf .write s))) :=
    step_of_inFlight (k := .write) ht hc rfl (exec_wrCheck rfl)
  rw [wrCheck_past_bound (s := wrSetup (routeOf .write s)) hr] at h3
  exact ⟨_, .cons h1 (.cons h2 (.cons h3 (.refl _))), rfl, rfl, rfl, rfl⟩

end Sys2Proof.Machine
end

section
/-! The session of 64 blocks (spec/70_reset_and_hazards.md R242). -/

namespace Sys2Proof.Machine

/-- Settles O59: `START` puts the cursor at 0 and each block advances it by 512, so a session's first 64 blocks are in range;
its cursors are plain multiples of 512, which the checks compare with the bound. -/
theorem sessionHasSixtyFourBlocks : Obligations.SessionHasSixtyFourBlocks := by
  unfold Obligations.SessionHasSixtyFourBlocks
  refine ⟨fun s ops ps ht hp hc hfb hq hlen => ?session, fun s ps ht hp hc hfb hcur => ?next,
    fun s n hn hcur => ?checks⟩
  case session =>
    have hready : s.Ready (framePacket .start :: (ops.flatMap BlockOp.packets ++ ps)) := ⟨ht, hp, hc, hfb, hq⟩
    obtain ⟨u, hstart, hu⟩ := hready.runs_completed (runs_start_completed ht rfl rfl)
    obtain ⟨t, hblocks, hend, hcursor, hreason, hsent⟩ :=
      runs_blocks ops 0 hu.ready hu.cursor (by rwa [Nat.zero_add])
    rw [Nat.zero_add] at hcursor
    exact ⟨t, hstart.trans hblocks, hend.phase, hend.cmd, hend.fb, hend.turns, hend.rxq, hcursor,
      hreason.trans hu.faultReason, by rw [hsent, hu.sent, Nat.add_zero]⟩
  case next =>
    have hr : s.cursor.toNat + 512 > 32768 := by
      rw [hcur]
      decide
    refine ⟨fun hq => ?read, fun hq => ?write⟩
    case read =>
      have hready : s.Ready (framePacket .readm :: ps) := ⟨ht, hp, hc, hfb, hq⟩
      obtain ⟨t, hrun, hf⟩ := runs_readm_past_bound (s := accepted .readm ps s) ht rfl rfl hr
      exact ⟨t, Runs.cons hready.step_accepts hrun, hf.phase, hf.faultReason, hf.rxq, hf.txq⟩
    case write =>
      have hready : s.Ready (framePacket .write :: ps) := ⟨ht, hp, hc, hfb, hq⟩
      obtain ⟨t, hrun, hf⟩ := runs_write_past_bound (s := accepted .write ps s) ht rfl rfl hr
      exact ⟨t, Runs.cons hready.step_accepts hrun, hf.phase, hf.faultReason, hf.rxq, hf.txq⟩
  case checks =>
    have hnat : s.cursor.toNat = 512 * n := by rw [hcur, toNat_sessionCursor hn]
    refine ⟨fun hp hm => ⟨_, exec_rdCheck hp, ?read⟩, fun hp hst => ⟨_, exec_wrCheck hp, ?write⟩⟩
    case read =>
      split_ifs with hlt
      · rw [rdCheck_mask (by omega) hm]
        exact ⟨rfl, rfl⟩
      · rw [rdCheck_past_bound (by omega)]
        exact ⟨rfl, rfl⟩
    case write =>
      rw [← hst] at hnat
      split_ifs with hlt
      · rw [wrCheck_in_range (by omega)]
        exact ⟨rfl, rfl⟩
      · rw [wrCheck_past_bound (by omega)]
        exact ⟨rfl, rfl⟩

end Sys2Proof.Machine
end
